-- ==== Sys2Proof/Word.lean ====
section
/-! DEFINITION. The two word types of the core: a byte (8 bits) and a word (16 bits), rules R7, R9, R10. -/

namespace Sys2Proof

/-- A byte, `[7:0]` (R9): register contents, memory bytes, flag registers, port values. -/
abbrev Byte := BitVec 8

/-- A word, `[15:0]` (R9): register pairs, addresses, the program counter, port addresses. Its arithmetic wraps modulo
65536, as R10 asks of every address. -/
abbrev Word := BitVec 16

end Sys2Proof
end

