-- ==== Sys2Proof/Syntax.lean ====
section
/-! DEFINITION. The instructions as syntax: the operand names of 30_encoding.md (tables R122 to R128) and the inductive
Instr, one constructor per row of spec/opcode_table.json. Register numbers and condition codes are constructors here, so the
machine never sees a raw field of an encoding, but for bit numbers, restart numbers and the don't-care fields that two words
of one instruction differ in. -/

namespace Sys2Proof

/-- The 8-bit registers of table r (R122): codes 0 B, 1 C, 2 D, 3 E, 4 H, 5 L, 7 A. Code 6 is a memory operand and has
rows of its own. -/
inductive Reg8 where
  | b | c | d | e | h | l | a
  deriving DecidableEq, Repr

/-- The index register a DD or FD byte selects (R128): IX for DD, IY for FD. -/
inductive Idx where
  | ix | iy
  deriving DecidableEq, Repr

/-- A half of the selected index register (R33, R128): XYh (code 4) or XYl (code 5). -/
inductive Half where
  | hi | lo
  deriving DecidableEq, Repr

/-- The 8-bit registers as `reg8x` reads them under DD or FD (R247): codes 4 and 5 are the halves XYh and XYl. -/
inductive RegX where
  | b | c | d | e | xh | xl | a
  deriving DecidableEq, Repr

/-- Table rp (R123): BC, DE, HL, SP. -/
inductive Pair where
  | bc | de | hl | sp
  deriving DecidableEq, Repr

/-- Table rp2 (R123), of PUSH and POP: BC, DE, HL, AF. -/
inductive PairQ where
  | bc | de | hl | af
  deriving DecidableEq, Repr

/-- Table rp under DD or FD (R123, R275): HL reads as the index register. -/
inductive PairX where
  | bc | de | xy | sp
  deriving DecidableEq, Repr

/-- Table cc (R124). -/
inductive Cond where
  | nz | z | nc | c | po | pe | p | m
  deriving DecidableEq, Repr

/-- The instructions: one constructor per row of spec/opcode_table.json, in the table's order. -/
inductive Instr where
  /-- NOP; `00000000`; R354. -/
  | nop
  /-- EX AF,AF'; `00001000`; R235. -/
  | exAfAf
  /-- DJNZ e; `00010000 eeeeeeee`; R346. -/
  | djnz (e : Byte)
  /-- JR e; `00011000 eeeeeeee`; R342. -/
  | jr (e : Byte)
  /-- JR cc,e; `001cc000 eeeeeeee`; R343. -/
  | jrCc (cc : Cond) (e : Byte)
  /-- LD dd,nn; `00pp0001 nnnnnnnn mmmmmmmm`; R220. -/
  | ldDdNn (dd : Pair) (nn : Word)
  /-- ADD HL,ss; `00pp1001`; R272. -/
  | addHlSs (ss : Pair)
  /-- LD (BC),A; `00000010`; R211. -/
  | ldBcA
  /-- LD (DE),A; `00010010`; R212. -/
  | ldDeA
  /-- LD (nn),HL; `00100010 nnnnnnnn mmmmmmmm`; R225. -/
  | ldMemHl (nn : Word)
  /-- LD (nn),A; `00110010 nnnnnnnn mmmmmmmm`; R213. -/
  | ldMemA (nn : Word)
  /-- LD A,(BC); `00001010`; R208. -/
  | ldABc
  /-- LD A,(DE); `00011010`; R209. -/
  | ldADe
  /-- LD HL,(nn); `00101010 nnnnnnnn mmmmmmmm`; R222. -/
  | ldHlMem (nn : Word)
  /-- LD A,(nn); `00111010 nnnnnnnn mmmmmmmm`; R210. -/
  | ldAMem (nn : Word)
  /-- INC ss; `00pp0011`; R276. -/
  | incSs (ss : Pair)
  /-- DEC ss; `00pp1011`; R278. -/
  | decSs (ss : Pair)
  /-- INC r; `00rrr100`; R261. -/
  | incR (r : Reg8)
  /-- INC (HL); `00110100`; R262. -/
  | incM
  /-- DEC r; `00rrr101`; R264. -/
  | decR (r : Reg8)
  /-- DEC (HL); `00110101`; R265. -/
  | decM
  /-- LD r,n; `00rrr110 nnnnnnnn`; R201. -/
  | ldRN (r : Reg8) (n : Byte)
  /-- LD (HL),n; `00110110 nnnnnnnn`; R206. -/
  | ldMN (n : Byte)
  /-- RLCA; `00000111`; R300. -/
  | rlca
  /-- RRCA; `00001111`; R302. -/
  | rrca
  /-- RLA; `00010111`; R301. -/
  | rla
  /-- RRA; `00011111`; R303. -/
  | rra
  /-- DAA; `00100111`; R267. -/
  | daa
  /-- CPL; `00101111`; R268. -/
  | cpl
  /-- SCF; `00110111`; R271. -/
  | scf
  /-- CCF; `00111111`; R270. -/
  | ccf
  /-- LD r,r'; `01rrrsss`; R200. -/
  | ldRR (r : Reg8) (r2 : Reg8)
  /-- LD r,(HL); `01rrr110`; R202. -/
  | ldRM (r : Reg8)
  /-- LD (HL),r; `01110sss`; R204. -/
  | ldMR (r : Reg8)
  /-- HALT; `01110110`; R355. -/
  | halt
  /-- ADD A,r; `10000sss`; R253. -/
  | addAR (r : Reg8)
  /-- ADD A,(HL); `10000110`; R253. -/
  | addAM
  /-- ADD A,n; `11000110 nnnnnnnn`; R253. -/
  | addAN (n : Byte)
  /-- ADC A,r; `10001sss`; R254. -/
  | adcAR (r : Reg8)
  /-- ADC A,(HL); `10001110`; R254. -/
  | adcAM
  /-- ADC A,n; `11001110 nnnnnnnn`; R254. -/
  | adcAN (n : Byte)
  /-- SUB r; `10010sss`; R255. -/
  | subR (r : Reg8)
  /-- SUB (HL); `10010110`; R255. -/
  | subM
  /-- SUB n; `11010110 nnnnnnnn`; R255. -/
  | subN (n : Byte)
  /-- SBC A,r; `10011sss`; R256. -/
  | sbcAR (r : Reg8)
  /-- SBC A,(HL); `10011110`; R256. -/
  | sbcAM
  /-- SBC A,n; `11011110 nnnnnnnn`; R256. -/
  | sbcAN (n : Byte)
  /-- AND r; `10100sss`; R257. -/
  | andR (r : Reg8)
  /-- AND (HL); `10100110`; R257. -/
  | andM
  /-- AND n; `11100110 nnnnnnnn`; R257. -/
  | andN (n : Byte)
  /-- XOR r; `10101sss`; R259. -/
  | xorR (r : Reg8)
  /-- XOR (HL); `10101110`; R259. -/
  | xorM
  /-- XOR n; `11101110 nnnnnnnn`; R259. -/
  | xorN (n : Byte)
  /-- OR r; `10110sss`; R258. -/
  | orR (r : Reg8)
  /-- OR (HL); `10110110`; R258. -/
  | orM
  /-- OR n; `11110110 nnnnnnnn`; R258. -/
  | orN (n : Byte)
  /-- CP r; `10111sss`; R260. -/
  | cpR (r : Reg8)
  /-- CP (HL); `10111110`; R260. -/
  | cpM
  /-- CP n; `11111110 nnnnnnnn`; R260. -/
  | cpN (n : Byte)
  /-- RET cc; `11ccc000`; R350. -/
  | retCc (cc : Cond)
  /-- POP qq; `11pp0001`; R232. -/
  | popQq (qq : PairQ)
  /-- RET; `11001001`; R349. -/
  | ret
  /-- EXX; `11011001`; R236. -/
  | exx
  /-- JP (HL); `11101001`; R344. -/
  | jpHl
  /-- LD SP,HL; `11111001`; R228. -/
  | ldSpHl
  /-- JP cc,nn; `11ccc010 nnnnnnnn mmmmmmmm`; R341. -/
  | jpCcNn (cc : Cond) (nn : Word)
  /-- JP nn; `11000011 nnnnnnnn mmmmmmmm`; R340. -/
  | jpNn (nn : Word)
  /-- OUT (n),A; `11010011 nnnnnnnn`; R389. -/
  | outNA (n : Byte)
  /-- IN A,(n); `11011011 nnnnnnnn`; R382. -/
  | inAN (n : Byte)
  /-- EX (SP),HL; `11100011`; R237. -/
  | exSpHl
  /-- EX DE,HL; `11101011`; R234. -/
  | exDeHl
  /-- DI; `11110011`; R356. -/
  | di
  /-- EI; `11111011`; R357. -/
  | ei
  /-- CALL cc,nn; `11ccc100 nnnnnnnn mmmmmmmm`; R348. -/
  | callCcNn (cc : Cond) (nn : Word)
  /-- PUSH qq; `11pp0101`; R230. -/
  | pushQq (qq : PairQ)
  /-- CALL nn; `11001101 nnnnnnnn mmmmmmmm`; R347. -/
  | callNn (nn : Word)
  /-- RST p; `11ttt111`; R353. -/
  | rst (p : BitVec 3)
  /-- RLC r; `11001011 00000rrr`; R305. -/
  | rlcR (r : Reg8)
  /-- RLC (HL); `11001011 00000110`; R305. -/
  | rlcM
  /-- RRC r; `11001011 00001rrr`; R307. -/
  | rrcR (r : Reg8)
  /-- RRC (HL); `11001011 00001110`; R307. -/
  | rrcM
  /-- RL r; `11001011 00010rrr`; R306. -/
  | rlR (r : Reg8)
  /-- RL (HL); `11001011 00010110`; R306. -/
  | rlM
  /-- RR r; `11001011 00011rrr`; R308. -/
  | rrR (r : Reg8)
  /-- RR (HL); `11001011 00011110`; R308. -/
  | rrM
  /-- SLA r; `11001011 00100rrr`; R309. -/
  | slaR (r : Reg8)
  /-- SLA (HL); `11001011 00100110`; R309. -/
  | slaM
  /-- SRA r; `11001011 00101rrr`; R310. -/
  | sraR (r : Reg8)
  /-- SRA (HL); `11001011 00101110`; R310. -/
  | sraM
  /-- SLL r; `11001011 00110rrr`; R311. -/
  | sllR (r : Reg8)
  /-- SLL (HL); `11001011 00110110`; R311. -/
  | sllM
  /-- SRL r; `11001011 00111rrr`; R312. -/
  | srlR (r : Reg8)
  /-- SRL (HL); `11001011 00111110`; R312. -/
  | srlM
  /-- BIT b,r; `11001011 01bbbrrr`; R315. -/
  | bitR (b : BitVec 3) (r : Reg8)
  /-- BIT b,(HL); `11001011 01bbb110`; R316. -/
  | bitM (b : BitVec 3)
  /-- RES b,r; `11001011 10bbbrrr`; R321. -/
  | resR (b : BitVec 3) (r : Reg8)
  /-- RES b,(HL); `11001011 10bbb110`; R322. -/
  | resM (b : BitVec 3)
  /-- SET b,r; `11001011 11bbbrrr`; R318. -/
  | setR (b : BitVec 3) (r : Reg8)
  /-- SET b,(HL); `11001011 11bbb110`; R319. -/
  | setM (b : BitVec 3)
  /-- IN r,(C); `11101101 01rrr000`; R383. -/
  | inRC (r : Reg8)
  /-- IN F,(C); `11101101 01110000`; R384. -/
  | inFC
  /-- OUT (C),r; `11101101 01rrr001`; R390. -/
  | outCR (r : Reg8)
  /-- OUT (C),0; `11101101 01110001`; R391. -/
  | outC0
  /-- SBC HL,ss; `11101101 01pp0010`; R274. -/
  | sbcHlSs (ss : Pair)
  /-- ADC HL,ss; `11101101 01pp1010`; R273. -/
  | adcHlSs (ss : Pair)
  /-- LD (nn),dd; `11101101 01pp0011 nnnnnnnn mmmmmmmm`; R226. -/
  | ldMemDd (dd : Pair) (nn : Word)
  /-- LD dd,(nn); `11101101 01pp1011 nnnnnnnn mmmmmmmm`; R223. -/
  | ldDdMem (dd : Pair) (nn : Word)
  /-- NEG; `11101101 01xxx100`; R269. -/
  | neg (y : BitVec 3)
  /-- RETN; `11101101 01xxx101`; R352. -/
  | retn (y : BitVec 3)
  /-- RETI; `11101101 01001101`; R351. -/
  | reti
  /-- IM 0; `11101101 01xxx110`; R358. -/
  | im0 (y : BitVec 3)
  /-- IM 1; `11101101 01xxx110`; R359. -/
  | im1 (y : BitVec 3)
  /-- IM 2; `11101101 01xxx110`; R360. -/
  | im2 (y : BitVec 3)
  /-- LD I,A; `11101101 01000111`; R216. -/
  | ldIA
  /-- LD R,A; `11101101 01001111`; R217. -/
  | ldRA
  /-- LD A,I; `11101101 01010111`; R214. -/
  | ldAI
  /-- LD A,R; `11101101 01011111`; R215. -/
  | ldAR
  /-- RRD; `11101101 01100111`; R314. -/
  | rrd
  /-- RLD; `11101101 01101111`; R313. -/
  | rld
  /-- LDI; `11101101 10100000`; R239. -/
  | ldi
  /-- CPI; `11101101 10100001`; R243. -/
  | cpi
  /-- INI; `11101101 10100010`; R385. -/
  | ini
  /-- OUTI; `11101101 10100011`; R392. -/
  | outi
  /-- LDD; `11101101 10101000`; R241. -/
  | ldd
  /-- CPD; `11101101 10101001`; R245. -/
  | cpd
  /-- IND; `11101101 10101010`; R387. -/
  | ind
  /-- OUTD; `11101101 10101011`; R394. -/
  | outd
  /-- LDIR; `11101101 10110000`; R240. -/
  | ldir
  /-- CPIR; `11101101 10110001`; R244. -/
  | cpir
  /-- INIR; `11101101 10110010`; R386. -/
  | inir
  /-- OTIR; `11101101 10110011`; R393. -/
  | otir
  /-- LDDR; `11101101 10111000`; R242. -/
  | lddr
  /-- CPDR; `11101101 10111001`; R246. -/
  | cpdr
  /-- INDR; `11101101 10111010`; R388. -/
  | indr
  /-- OTDR; `11101101 10111011`; R395. -/
  | otdr
  /-- NOP (ED undefined); `11101101 01xxx111`; R362. -/
  | nopEd1 (y : BitVec 3)
  /-- NOP (ED undefined); `11101101 00xxxxxx`; R362. -/
  | nopEd0 (x : BitVec 6)
  /-- NOP (ED undefined); `11101101 11xxxxxx`; R362. -/
  | nopEd3 (x : BitVec 6)
  /-- NOP (ED undefined); `11101101 10yyyzzz`; R362. -/
  | nopEd2 (y : BitVec 3) (z : BitVec 3)
  /-- ADD IX,pp; `11i11101 00pp1001`; R275. -/
  | addIxPp (i : Idx) (pp : PairX)
  /-- LD IX,nn; `11i11101 00100001 nnnnnnnn mmmmmmmm`; R221. -/
  | ldIxNn (i : Idx) (nn : Word)
  /-- LD (nn),IX; `11i11101 00100010 nnnnnnnn mmmmmmmm`; R227. -/
  | ldMemIx (i : Idx) (nn : Word)
  /-- INC IX; `11i11101 00100011`; R277. -/
  | incIx (i : Idx)
  /-- LD IX,(nn); `11i11101 00101010 nnnnnnnn mmmmmmmm`; R224. -/
  | ldIxMem (i : Idx) (nn : Word)
  /-- DEC IX; `11i11101 00101011`; R279. -/
  | decIx (i : Idx)
  /-- INC IXh/IXl; `11i11101 00rrr100`; R261. -/
  | incHalf (i : Idx) (h : Half)
  /-- DEC IXh/IXl; `11i11101 00rrr101`; R264. -/
  | decHalf (i : Idx) (h : Half)
  /-- LD IXh/IXl,n; `11i11101 00rrr110 nnnnnnnn`; R219. -/
  | ldHalfN (i : Idx) (h : Half) (n : Byte)
  /-- INC (IX+d); `11i11101 00110100 dddddddd`; R263. -/
  | incX (i : Idx) (d : Byte)
  /-- DEC (IX+d); `11i11101 00110101 dddddddd`; R266. -/
  | decX (i : Idx) (d : Byte)
  /-- LD (IX+d),n; `11i11101 00110110 dddddddd nnnnnnnn`; R207. -/
  | ldXN (i : Idx) (d : Byte) (n : Byte)
  /-- LD rx,ry; `11i11101 01rrrsss`; R218. -/
  | ldRxRy (i : Idx) (r : RegX) (r2 : RegX)
  /-- LD r,(IX+d); `11i11101 01rrr110 dddddddd`; R203. -/
  | ldRX (i : Idx) (r : Reg8) (d : Byte)
  /-- LD (IX+d),r; `11i11101 01110sss dddddddd`; R205. -/
  | ldXR (i : Idx) (d : Byte) (r : Reg8)
  /-- ADD A,IXh/IXl; `11i11101 10000sss`; R253. -/
  | addAHalf (i : Idx) (h : Half)
  /-- ADD A,(IX+d); `11i11101 10000110 dddddddd`; R253. -/
  | addAX (i : Idx) (d : Byte)
  /-- ADC A,IXh/IXl; `11i11101 10001sss`; R254. -/
  | adcAHalf (i : Idx) (h : Half)
  /-- ADC A,(IX+d); `11i11101 10001110 dddddddd`; R254. -/
  | adcAX (i : Idx) (d : Byte)
  /-- SUB IXh/IXl; `11i11101 10010sss`; R255. -/
  | subHalf (i : Idx) (h : Half)
  /-- SUB (IX+d); `11i11101 10010110 dddddddd`; R255. -/
  | subX (i : Idx) (d : Byte)
  /-- SBC A,IXh/IXl; `11i11101 10011sss`; R256. -/
  | sbcAHalf (i : Idx) (h : Half)
  /-- SBC A,(IX+d); `11i11101 10011110 dddddddd`; R256. -/
  | sbcAX (i : Idx) (d : Byte)
  /-- AND IXh/IXl; `11i11101 10100sss`; R257. -/
  | andHalf (i : Idx) (h : Half)
  /-- AND (IX+d); `11i11101 10100110 dddddddd`; R257. -/
  | andX (i : Idx) (d : Byte)
  /-- XOR IXh/IXl; `11i11101 10101sss`; R259. -/
  | xorHalf (i : Idx) (h : Half)
  /-- XOR (IX+d); `11i11101 10101110 dddddddd`; R259. -/
  | xorX (i : Idx) (d : Byte)
  /-- OR IXh/IXl; `11i11101 10110sss`; R258. -/
  | orHalf (i : Idx) (h : Half)
  /-- OR (IX+d); `11i11101 10110110 dddddddd`; R258. -/
  | orX (i : Idx) (d : Byte)
  /-- CP IXh/IXl; `11i11101 10111sss`; R260. -/
  | cpHalf (i : Idx) (h : Half)
  /-- CP (IX+d); `11i11101 10111110 dddddddd`; R260. -/
  | cpX (i : Idx) (d : Byte)
  /-- POP IX; `11i11101 11100001`; R233. -/
  | popIx (i : Idx)
  /-- EX (SP),IX; `11i11101 11100011`; R238. -/
  | exSpIx (i : Idx)
  /-- PUSH IX; `11i11101 11100101`; R231. -/
  | pushIx (i : Idx)
  /-- JP (IX); `11i11101 11101001`; R345. -/
  | jpIx (i : Idx)
  /-- LD SP,IX; `11i11101 11111001`; R229. -/
  | ldSpIx (i : Idx)
  /-- (ignored prefix); `11i11101 yyyyyyyy`; R361. -/
  | ignoredPrefix (i : Idx) (next : Byte)
  /-- RLC (IX+d); `11i11101 11001011 dddddddd 00000110`; R305. -/
  | rlcX (i : Idx) (d : Byte)
  /-- RLC (IX+d),r; `11i11101 11001011 dddddddd 00000rrr`; R305. -/
  | rlcXR (i : Idx) (d : Byte) (r : Reg8)
  /-- RRC (IX+d); `11i11101 11001011 dddddddd 00001110`; R307. -/
  | rrcX (i : Idx) (d : Byte)
  /-- RRC (IX+d),r; `11i11101 11001011 dddddddd 00001rrr`; R307. -/
  | rrcXR (i : Idx) (d : Byte) (r : Reg8)
  /-- RL (IX+d); `11i11101 11001011 dddddddd 00010110`; R306. -/
  | rlX (i : Idx) (d : Byte)
  /-- RL (IX+d),r; `11i11101 11001011 dddddddd 00010rrr`; R306. -/
  | rlXR (i : Idx) (d : Byte) (r : Reg8)
  /-- RR (IX+d); `11i11101 11001011 dddddddd 00011110`; R308. -/
  | rrX (i : Idx) (d : Byte)
  /-- RR (IX+d),r; `11i11101 11001011 dddddddd 00011rrr`; R308. -/
  | rrXR (i : Idx) (d : Byte) (r : Reg8)
  /-- SLA (IX+d); `11i11101 11001011 dddddddd 00100110`; R309. -/
  | slaX (i : Idx) (d : Byte)
  /-- SLA (IX+d),r; `11i11101 11001011 dddddddd 00100rrr`; R309. -/
  | slaXR (i : Idx) (d : Byte) (r : Reg8)
  /-- SRA (IX+d); `11i11101 11001011 dddddddd 00101110`; R310. -/
  | sraX (i : Idx) (d : Byte)
  /-- SRA (IX+d),r; `11i11101 11001011 dddddddd 00101rrr`; R310. -/
  | sraXR (i : Idx) (d : Byte) (r : Reg8)
  /-- SLL (IX+d); `11i11101 11001011 dddddddd 00110110`; R311. -/
  | sllX (i : Idx) (d : Byte)
  /-- SLL (IX+d),r; `11i11101 11001011 dddddddd 00110rrr`; R311. -/
  | sllXR (i : Idx) (d : Byte) (r : Reg8)
  /-- SRL (IX+d); `11i11101 11001011 dddddddd 00111110`; R312. -/
  | srlX (i : Idx) (d : Byte)
  /-- SRL (IX+d),r; `11i11101 11001011 dddddddd 00111rrr`; R312. -/
  | srlXR (i : Idx) (d : Byte) (r : Reg8)
  /-- BIT b,(IX+d); `11i11101 11001011 dddddddd 01bbbzzz`; R317. -/
  | bitX (i : Idx) (d : Byte) (b : BitVec 3) (z : BitVec 3)
  /-- RES b,(IX+d); `11i11101 11001011 dddddddd 10bbb110`; R323. -/
  | resX (i : Idx) (d : Byte) (b : BitVec 3)
  /-- RES b,(IX+d),r; `11i11101 11001011 dddddddd 10bbbrrr`; R323. -/
  | resXR (i : Idx) (d : Byte) (b : BitVec 3) (r : Reg8)
  /-- SET b,(IX+d); `11i11101 11001011 dddddddd 11bbb110`; R320. -/
  | setX (i : Idx) (d : Byte) (b : BitVec 3)
  /-- SET b,(IX+d),r; `11i11101 11001011 dddddddd 11bbbrrr`; R320. -/
  | setXR (i : Idx) (d : Byte) (b : BitVec 3) (r : Reg8)
  deriving DecidableEq, Repr

end Sys2Proof
end

