-- ==== Sys2Proof/Decode.lean ====
section
/-! DEFINITION. Decoding bytes to an instruction (30_encoding.md, R120 to R139) and, after it, the encoder. The decoder is
total: every four bytes decode (R132, R139). `decode` on a byte list rejects a list that ends inside an instruction, by name. -/

namespace Sys2Proof

/-! ## Fields of an opcode byte (R121) -/

/-- `x = op[7:6]`. -/
def opX (op : Byte) : Nat := op.toNat / 64

/-- `y = op[5:3]`. -/
def opY (op : Byte) : Nat := op.toNat / 8 % 8

/-- `z = op[2:0]`. -/
def opZ (op : Byte) : Nat := op.toNat % 8

/-- `p = y[2:1]`. -/
def opP (op : Byte) : Nat := op.toNat / 16 % 4

/-- `q = y[0]`. -/
def opQ (op : Byte) : Nat := op.toNat / 8 % 2

/-- `hi:lo` (R9): the immediate nn is fetched low byte first (R81, R130). -/
def wordOf (hi lo : Byte) : Word := hi ++ lo

/-! ## Operand tables (R122 to R128) -/

/-- What an r code names: a register, or code 6, the memory operand. -/
inductive ROperand where
  | reg (r : Reg8)
  | mem
  deriving DecidableEq, Repr

/-- Table r (R122). -/
def regOf : Nat → ROperand
  | 0 => .reg .b
  | 1 => .reg .c
  | 2 => .reg .d
  | 3 => .reg .e
  | 4 => .reg .h
  | 5 => .reg .l
  | 6 => .mem
  | _ => .reg .a

/-- Table r under DD or FD in an instruction with no (XY+d) operand (R128); `none` is code 6. -/
def regXOf : Nat → Option RegX
  | 0 => some .b
  | 1 => some .c
  | 2 => some .d
  | 3 => some .e
  | 4 => some .xh
  | 5 => some .xl
  | 6 => none
  | _ => some .a

/-- Table rp (R123). -/
def pairOf : Nat → Pair
  | 0 => .bc
  | 1 => .de
  | 2 => .hl
  | _ => .sp

/-- Table rp2 (R123). -/
def pairQOf : Nat → PairQ
  | 0 => .bc
  | 1 => .de
  | 2 => .hl
  | _ => .af

/-- Table rp under DD or FD (R123). -/
def pairXOf : Nat → PairX
  | 0 => .bc
  | 1 => .de
  | 2 => .xy
  | _ => .sp

/-- Table cc (R124). -/
def condOf : Nat → Cond
  | 0 => .nz
  | 1 => .z
  | 2 => .nc
  | 3 => .c
  | 4 => .po
  | 5 => .pe
  | 6 => .p
  | _ => .m

/-- The indexable set of rule R128: the main-page opcodes a DD or FD changes. -/
def indexable (op : Byte) : Bool :=
  let n := op.toNat
  let hasHl (c : Nat) : Bool := c == 4 || c == 5 || c == 6
  match opX op with
  | 0 => [0x09, 0x19, 0x29, 0x39, 0x21, 0x22, 0x23, 0x24, 0x25, 0x26, 0x2A, 0x2B, 0x2C, 0x2D, 0x2E, 0x34, 0x35, 0x36].contains n
  | 1 => n != 0x76 && (hasHl (opY op) || hasHl (opZ op))
  | 2 => hasHl (opZ op)
  | _ => [0xCB, 0xE1, 0xE3, 0xE5, 0xE9, 0xF9].contains n

/-! ## The pages -/

/-- `alu[y] r[z]` (R125, R133): the register form or the (HL) form. -/
def aluOf (y : Nat) (operand : ROperand) : Instr :=
  match operand with
  | .reg r =>
    match y with
    | 0 => .addAR r
    | 1 => .adcAR r
    | 2 => .subR r
    | 3 => .sbcAR r
    | 4 => .andR r
    | 5 => .xorR r
    | 6 => .orR r
    | _ => .cpR r
  | .mem =>
    match y with
    | 0 => .addAM
    | 1 => .adcAM
    | 2 => .subM
    | 3 => .sbcAM
    | 4 => .andM
    | 5 => .xorM
    | 6 => .orM
    | _ => .cpM

/-- `alu[y] n` (R125, R133). -/
def aluNOf (y : Nat) (n : Byte) : Instr :=
  match y with
  | 0 => .addAN n
  | 1 => .adcAN n
  | 2 => .subN n
  | 3 => .sbcAN n
  | 4 => .andN n
  | 5 => .xorN n
  | 6 => .orN n
  | _ => .cpN n

/-- `alu[y] XYh` and `alu[y] XYl` (R136). -/
def aluHalfOf (y : Nat) (i : Idx) (h : Half) : Instr :=
  match y with
  | 0 => .addAHalf i h
  | 1 => .adcAHalf i h
  | 2 => .subHalf i h
  | 3 => .sbcAHalf i h
  | 4 => .andHalf i h
  | 5 => .xorHalf i h
  | 6 => .orHalf i h
  | _ => .cpHalf i h

/-- `alu[y] (XY+d)` (R136). -/
def aluXOf (y : Nat) (i : Idx) (d : Byte) : Instr :=
  match y with
  | 0 => .addAX i d
  | 1 => .adcAX i d
  | 2 => .subX i d
  | 3 => .sbcAX i d
  | 4 => .andX i d
  | 5 => .xorX i d
  | 6 => .orX i d
  | _ => .cpX i d

/-- The CB page (R134), with `rot[y]` of table R126. -/
def decodeCB (op : Byte) : Instr :=
  let b : BitVec 3 := BitVec.ofNat 3 (opY op)
  match opX op, regOf (opZ op) with
  | 0, .reg r =>
    match opY op with
    | 0 => .rlcR r
    | 1 => .rrcR r
    | 2 => .rlR r
    | 3 => .rrR r
    | 4 => .slaR r
    | 5 => .sraR r
    | 6 => .sllR r
    | _ => .srlR r
  | 0, .mem =>
    match opY op with
    | 0 => .rlcM
    | 1 => .rrcM
    | 2 => .rlM
    | 3 => .rrM
    | 4 => .slaM
    | 5 => .sraM
    | 6 => .sllM
    | _ => .srlM
  | 1, .reg r => .bitR b r
  | 1, .mem => .bitM b
  | 2, .reg r => .resR b r
  | 2, .mem => .resM b
  | _, .reg r => .setR b r
  | _, .mem => .setM b

/-- The DDCB/FDCB page (R137): the displacement comes before the opcode. -/
def decodeXCB (i : Idx) (d op : Byte) : Instr :=
  let b : BitVec 3 := BitVec.ofNat 3 (opY op)
  match opX op, regOf (opZ op) with
  | 0, .reg r =>
    match opY op with
    | 0 => .rlcXR i d r
    | 1 => .rrcXR i d r
    | 2 => .rlXR i d r
    | 3 => .rrXR i d r
    | 4 => .slaXR i d r
    | 5 => .sraXR i d r
    | 6 => .sllXR i d r
    | _ => .srlXR i d r
  | 0, .mem =>
    match opY op with
    | 0 => .rlcX i d
    | 1 => .rrcX i d
    | 2 => .rlX i d
    | 3 => .rrX i d
    | 4 => .slaX i d
    | 5 => .sraX i d
    | 6 => .sllX i d
    | _ => .srlX i d
  | 1, _ => .bitX i d b (BitVec.ofNat 3 (opZ op))
  | 2, .reg r => .resXR i d b r
  | 2, .mem => .resX i d b
  | _, .reg r => .setXR i d b r
  | _, .mem => .setX i d b

/-- The ED page's x = 1 opcodes (R135). -/
def decodeED1 (op b2 b3 : Byte) : Instr :=
  let y : BitVec 3 := BitVec.ofNat 3 (opY op)
  match opZ op with
  | 0 =>
    match regOf (opY op) with
    | .reg r => .inRC r
    | .mem => .inFC
  | 1 =>
    match regOf (opY op) with
    | .reg r => .outCR r
    | .mem => .outC0
  | 2 => if opQ op = 0 then .sbcHlSs (pairOf (opP op)) else .adcHlSs (pairOf (opP op))
  | 3 => if opQ op = 0 then .ldMemDd (pairOf (opP op)) (wordOf b3 b2) else .ldDdMem (pairOf (opP op)) (wordOf b3 b2)
  | 4 => .neg y
  | 5 => if opY op = 1 then .reti else .retn y
  | 6 =>
    match opY op with
    | 2 => .im1 y
    | 6 => .im1 y
    | 3 => .im2 y
    | 7 => .im2 y
    | _ => .im0 y
  | _ =>
    match opY op with
    | 0 => .ldIA
    | 1 => .ldRA
    | 2 => .ldAI
    | 3 => .ldAR
    | 4 => .rrd
    | 5 => .rld
    | _ => .nopEd1 y

/-- The ED page's x = 2 opcodes (R135): the block instructions, and the undefined ones. -/
def decodeED2 (op : Byte) : Instr :=
  match opY op, opZ op with
  | 4, 0 => .ldi
  | 4, 1 => .cpi
  | 4, 2 => .ini
  | 4, 3 => .outi
  | 5, 0 => .ldd
  | 5, 1 => .cpd
  | 5, 2 => .ind
  | 5, 3 => .outd
  | 6, 0 => .ldir
  | 6, 1 => .cpir
  | 6, 2 => .inir
  | 6, 3 => .otir
  | 7, 0 => .lddr
  | 7, 1 => .cpdr
  | 7, 2 => .indr
  | 7, 3 => .otdr
  | y, z => .nopEd2 (BitVec.ofNat 3 y) (BitVec.ofNat 3 z)

/-- The ED page (R135). -/
def decodeED (op b2 b3 : Byte) : Instr :=
  match opX op with
  | 0 => .nopEd0 (BitVec.ofNat 6 op.toNat)
  | 1 => decodeED1 op b2 b3
  | 2 => decodeED2 op
  | _ => .nopEd3 (BitVec.ofNat 6 op.toNat)

/-- The DD/FD page's x = 0 opcodes (R136). `rest` answers an opcode with no indexed form, which `indexable` keeps out. -/
def decodeXY0 (i : Idx) (op b2 b3 : Byte) (rest : Instr) : Instr :=
  match opZ op with
  | 1 => if opQ op = 0 then .ldIxNn i (wordOf b3 b2) else .addIxPp i (pairXOf (opP op))
  | 2 => if opQ op = 0 then .ldMemIx i (wordOf b3 b2) else .ldIxMem i (wordOf b3 b2)
  | 3 => if opQ op = 0 then .incIx i else .decIx i
  | 4 =>
    match opY op with
    | 4 => .incHalf i .hi
    | 5 => .incHalf i .lo
    | _ => .incX i b2
  | 5 =>
    match opY op with
    | 4 => .decHalf i .hi
    | 5 => .decHalf i .lo
    | _ => .decX i b2
  | 6 =>
    match opY op with
    | 4 => .ldHalfN i .hi b2
    | 5 => .ldHalfN i .lo b2
    | _ => .ldXN i b2 b3
  | _ => rest

/-- The DD/FD page's x = 1 opcodes (R136): with an (XY+d) operand the other operand is a plain register, without one codes
4 and 5 are the halves. -/
def decodeXY1 (i : Idx) (op b2 : Byte) (rest : Instr) : Instr :=
  match regOf (opY op), regOf (opZ op) with
  | .reg r, .mem => .ldRX i r b2
  | .mem, .reg r => .ldXR i b2 r
  | _, _ =>
    match regXOf (opY op), regXOf (opZ op) with
    | some r, some r2 => .ldRxRy i r r2
    | _, _ => rest

/-- The DD/FD page (R132, R136), with the ignored prefix (R361) for a byte outside the indexable set. -/
def decodeXY (i : Idx) (op b2 b3 : Byte) : Instr :=
  let ignored := Instr.ignoredPrefix i op
  if indexable op then
    match opX op with
    | 0 => decodeXY0 i op b2 b3 ignored
    | 1 => decodeXY1 i op b2 ignored
    | 2 =>
      match opZ op with
      | 4 => aluHalfOf (opY op) i .hi
      | 5 => aluHalfOf (opY op) i .lo
      | _ => aluXOf (opY op) i b2
    | _ =>
      match op.toNat with
      | 0xCB => decodeXCB i b2 b3
      | 0xE1 => .popIx i
      | 0xE3 => .exSpIx i
      | 0xE5 => .pushIx i
      | 0xE9 => .jpIx i
      | 0xF9 => .ldSpIx i
      | _ => ignored
  else ignored

/-- The main page's x = 0 opcodes (R133). -/
def decodeMain0 (op b1 b2 : Byte) : Instr :=
  let nn := wordOf b2 b1
  match opZ op with
  | 0 =>
    match opY op with
    | 0 => .nop
    | 1 => .exAfAf
    | 2 => .djnz b1
    | 3 => .jr b1
    | y => .jrCc (condOf (y - 4)) b1
  | 1 => if opQ op = 0 then .ldDdNn (pairOf (opP op)) nn else .addHlSs (pairOf (opP op))
  | 2 =>
    match opY op with
    | 0 => .ldBcA
    | 1 => .ldABc
    | 2 => .ldDeA
    | 3 => .ldADe
    | 4 => .ldMemHl nn
    | 5 => .ldHlMem nn
    | 6 => .ldMemA nn
    | _ => .ldAMem nn
  | 3 => if opQ op = 0 then .incSs (pairOf (opP op)) else .decSs (pairOf (opP op))
  | 4 =>
    match regOf (opY op) with
    | .reg r => .incR r
    | .mem => .incM
  | 5 =>
    match regOf (opY op) with
    | .reg r => .decR r
    | .mem => .decM
  | 6 =>
    match regOf (opY op) with
    | .reg r => .ldRN r b1
    | .mem => .ldMN b1
  | _ =>
    match opY op with
    | 0 => .rlca
    | 1 => .rrca
    | 2 => .rla
    | 3 => .rra
    | 4 => .daa
    | 5 => .cpl
    | 6 => .scf
    | _ => .ccf

/-- The main page's x = 1 opcodes (R133). -/
def decodeMain1 (op : Byte) : Instr :=
  match regOf (opY op), regOf (opZ op) with
  | .mem, .mem => .halt
  | .reg r, .mem => .ldRM r
  | .mem, .reg r => .ldMR r
  | .reg r, .reg r2 => .ldRR r r2

/-- The main page's x = 3 opcodes (R133), with the four prefix bytes leading to their pages (R132). -/
def decodeMain3 (op b1 b2 b3 : Byte) : Instr :=
  let nn := wordOf b2 b1
  match opZ op with
  | 0 => .retCc (condOf (opY op))
  | 1 =>
    if opQ op = 0 then .popQq (pairQOf (opP op))
    else
      match opP op with
      | 0 => .ret
      | 1 => .exx
      | 2 => .jpHl
      | _ => .ldSpHl
  | 2 => .jpCcNn (condOf (opY op)) nn
  | 3 =>
    match opY op with
    | 0 => .jpNn nn
    | 1 => decodeCB b1
    | 2 => .outNA b1
    | 3 => .inAN b1
    | 4 => .exSpHl
    | 5 => .exDeHl
    | 6 => .di
    | _ => .ei
  | 4 => .callCcNn (condOf (opY op)) nn
  | 5 =>
    if opQ op = 0 then .pushQq (pairQOf (opP op))
    else
      match opP op with
      | 0 => .callNn nn
      | 1 => decodeXY .ix b1 b2 b3
      | 2 => decodeED b1 b2 b3
      | _ => decodeXY .iy b1 b2 b3
  | 6 => aluNOf (opY op) b1
  | _ => .rst (BitVec.ofNat 3 (opY op))

/-- The decode procedure (R132) on the four bytes from PC0 on. An instruction shorter than four bytes does not depend on
the bytes after it, but for the byte after an ignored prefix (R361). -/
def decode4 (b0 b1 b2 b3 : Byte) : Instr :=
  match opX b0 with
  | 0 => decodeMain0 b0 b1 b2
  | 1 => decodeMain1 b0
  | 2 => aluOf (opY b0) (regOf (opZ b0))
  | _ => decodeMain3 b0 b1 b2 b3

/-! ## Lengths -/

/-- The bytes an instruction consumes: the `length` of its row (R138, R141). The byte after an ignored DD/FD is looked at
and not consumed (R361). -/
def Instr.length : Instr → Nat
  | .nop | .exAfAf | .addHlSs .. | .ldBcA | .ldDeA | .ldABc | .ldADe | .incSs .. | .decSs .. | .incR .. | .incM
  | .decR .. | .decM | .rlca | .rrca | .rla | .rra | .daa | .cpl | .scf | .ccf | .ldRR .. | .ldRM .. | .ldMR ..
  | .halt | .addAR .. | .addAM | .adcAR .. | .adcAM | .subR .. | .subM | .sbcAR .. | .sbcAM | .andR .. | .andM
  | .xorR .. | .xorM | .orR .. | .orM | .cpR .. | .cpM | .retCc .. | .popQq .. | .ret | .exx | .jpHl | .ldSpHl
  | .exSpHl | .exDeHl | .di | .ei | .pushQq .. | .rst .. | .ignoredPrefix .. => 1
  | .djnz .. | .jr .. | .jrCc .. | .ldRN .. | .ldMN .. | .addAN .. | .adcAN .. | .subN .. | .sbcAN .. | .andN ..
  | .xorN .. | .orN .. | .cpN .. | .outNA .. | .inAN .. | .rlcR .. | .rlcM | .rrcR .. | .rrcM | .rlR .. | .rlM
  | .rrR .. | .rrM | .slaR .. | .slaM | .sraR .. | .sraM | .sllR .. | .sllM | .srlR .. | .srlM | .bitR ..
  | .bitM .. | .resR .. | .resM .. | .setR .. | .setM .. | .inRC .. | .inFC | .outCR .. | .outC0 | .sbcHlSs ..
  | .adcHlSs .. | .neg .. | .retn .. | .reti | .im0 .. | .im1 .. | .im2 .. | .ldIA | .ldRA | .ldAI | .ldAR
  | .rrd | .rld | .ldi | .cpi | .ini | .outi | .ldd | .cpd | .ind | .outd | .ldir | .cpir | .inir | .otir
  | .lddr | .cpdr | .indr | .otdr | .nopEd1 .. | .nopEd0 .. | .nopEd3 .. | .nopEd2 .. | .addIxPp .. | .incIx ..
  | .decIx .. | .incHalf .. | .decHalf .. | .ldRxRy .. | .addAHalf .. | .adcAHalf .. | .subHalf ..
  | .sbcAHalf .. | .andHalf .. | .xorHalf .. | .orHalf .. | .cpHalf .. | .popIx .. | .exSpIx .. | .pushIx ..
  | .jpIx .. | .ldSpIx .. => 2
  | .ldDdNn .. | .ldMemHl .. | .ldMemA .. | .ldHlMem .. | .ldAMem .. | .jpCcNn .. | .jpNn .. | .callCcNn ..
  | .callNn .. | .ldHalfN .. | .incX .. | .decX .. | .ldRX .. | .ldXR .. | .addAX .. | .adcAX .. | .subX ..
  | .sbcAX .. | .andX .. | .xorX .. | .orX .. | .cpX .. => 3
  | .ldMemDd .. | .ldDdMem .. | .ldIxNn .. | .ldMemIx .. | .ldIxMem .. | .ldXN .. | .rlcX .. | .rlcXR ..
  | .rrcX .. | .rrcXR .. | .rlX .. | .rlXR .. | .rrX .. | .rrXR .. | .slaX .. | .slaXR .. | .sraX .. | .sraXR ..
  | .sllX .. | .sllXR .. | .srlX .. | .srlXR .. | .bitX .. | .resX .. | .resXR .. | .setX .. | .setXR .. => 4

/-- The M1 fetches of an instruction: the `r_inc` of its row (R172). -/
def Instr.m1 : Instr → Nat
  | .nop | .exAfAf | .djnz .. | .jr .. | .jrCc .. | .ldDdNn .. | .addHlSs .. | .ldBcA | .ldDeA | .ldMemHl ..
  | .ldMemA .. | .ldABc | .ldADe | .ldHlMem .. | .ldAMem .. | .incSs .. | .decSs .. | .incR .. | .incM
  | .decR .. | .decM | .ldRN .. | .ldMN .. | .rlca | .rrca | .rla | .rra | .daa | .cpl | .scf | .ccf | .ldRR ..
  | .ldRM .. | .ldMR .. | .halt | .addAR .. | .addAM | .addAN .. | .adcAR .. | .adcAM | .adcAN .. | .subR ..
  | .subM | .subN .. | .sbcAR .. | .sbcAM | .sbcAN .. | .andR .. | .andM | .andN .. | .xorR .. | .xorM
  | .xorN .. | .orR .. | .orM | .orN .. | .cpR .. | .cpM | .cpN .. | .retCc .. | .popQq .. | .ret | .exx | .jpHl
  | .ldSpHl | .jpCcNn .. | .jpNn .. | .outNA .. | .inAN .. | .exSpHl | .exDeHl | .di | .ei | .callCcNn ..
  | .pushQq .. | .callNn .. | .rst .. | .ignoredPrefix .. => 1
  | .rlcR .. | .rlcM | .rrcR .. | .rrcM | .rlR .. | .rlM | .rrR .. | .rrM | .slaR .. | .slaM | .sraR .. | .sraM
  | .sllR .. | .sllM | .srlR .. | .srlM | .bitR .. | .bitM .. | .resR .. | .resM .. | .setR .. | .setM ..
  | .inRC .. | .inFC | .outCR .. | .outC0 | .sbcHlSs .. | .adcHlSs .. | .ldMemDd .. | .ldDdMem .. | .neg ..
  | .retn .. | .reti | .im0 .. | .im1 .. | .im2 .. | .ldIA | .ldRA | .ldAI | .ldAR | .rrd | .rld | .ldi | .cpi
  | .ini | .outi | .ldd | .cpd | .ind | .outd | .ldir | .cpir | .inir | .otir | .lddr | .cpdr | .indr | .otdr
  | .nopEd1 .. | .nopEd0 .. | .nopEd3 .. | .nopEd2 .. | .addIxPp .. | .ldIxNn .. | .ldMemIx .. | .incIx ..
  | .ldIxMem .. | .decIx .. | .incHalf .. | .decHalf .. | .ldHalfN .. | .incX .. | .decX .. | .ldXN ..
  | .ldRxRy .. | .ldRX .. | .ldXR .. | .addAHalf .. | .addAX .. | .adcAHalf .. | .adcAX .. | .subHalf ..
  | .subX .. | .sbcAHalf .. | .sbcAX .. | .andHalf .. | .andX .. | .xorHalf .. | .xorX .. | .orHalf .. | .orX ..
  | .cpHalf .. | .cpX .. | .popIx .. | .exSpIx .. | .pushIx .. | .jpIx .. | .ldSpIx .. | .rlcX .. | .rlcXR ..
  | .rrcX .. | .rrcXR .. | .rlX .. | .rlXR .. | .rrX .. | .rrXR .. | .slaX .. | .slaXR .. | .sraX .. | .sraXR ..
  | .sllX .. | .sllXR .. | .srlX .. | .srlXR .. | .bitX .. | .resX .. | .resXR .. | .setX .. | .setXR .. => 2

/-- The bytes the decoder has to see: the instruction's own, and one more for an ignored prefix (R132: `b1`). -/
def Instr.window (i : Instr) : Nat :=
  match i with
  | .ignoredPrefix .. => 2
  | _ => i.length

/-- Why a byte list is rejected. -/
inductive DecodeReject where
  /-- The list ends before the instruction does. -/
  | truncated
  deriving DecidableEq, Repr

/-- Decode the first instruction of a byte list. Every list long enough decodes (R139). -/
def decode (bytes : List Byte) : Except DecodeReject Instr :=
  let i := decode4 (bytes.getD 0 0) (bytes.getD 1 0) (bytes.getD 2 0) (bytes.getD 3 0)
  if bytes.length < i.window then .error .truncated else .ok i

/-- Byte `k` (from 0, the first) of a word of spec/opcode_table.json of `nbits` bits: the table writes an instruction's first
byte in the most significant bits (`match` of JR e is 0x1800), log 1. A byte past the row's end is 0. -/
def tableByte (nbits w k : Nat) : Byte :=
  if 8 * (k + 1) ≤ nbits then BitVec.ofNat 8 (w / 2 ^ (nbits - 8 * (k + 1))) else 0

/-- The instruction the decoder reads from a word numbered as spec/opcode_table.json numbers it. A row has 8, 16, 24 or 32
bits. -/
def decodeTableWord (nbits w : Nat) : Option Instr :=
  if nbits = 8 ∨ nbits = 16 ∨ nbits = 24 ∨ nbits = 32 then
    some (decode4 (tableByte nbits w 0) (tableByte nbits w 1) (tableByte nbits w 2) (tableByte nbits w 3))
  else none

/-! ## The encoder, from the same tables -/

/-- The r code of a register (R122). -/
def Reg8.code : Reg8 → Nat
  | .b => 0
  | .c => 1
  | .d => 2
  | .e => 3
  | .h => 4
  | .l => 5
  | .a => 7

/-- The r code of a register under DD or FD (R128). -/
def RegX.code : RegX → Nat
  | .b => 0
  | .c => 1
  | .d => 2
  | .e => 3
  | .xh => 4
  | .xl => 5
  | .a => 7

/-- XYh is code 4, XYl code 5 (R128). -/
def Half.code : Half → Nat
  | .hi => 4
  | .lo => 5

/-- The rp code (R123). -/
def Pair.code : Pair → Nat
  | .bc => 0
  | .de => 1
  | .hl => 2
  | .sp => 3

/-- The rp2 code (R123). -/
def PairQ.code : PairQ → Nat
  | .bc => 0
  | .de => 1
  | .hl => 2
  | .af => 3

/-- The rp code under DD or FD (R123). -/
def PairX.code : PairX → Nat
  | .bc => 0
  | .de => 1
  | .xy => 2
  | .sp => 3

/-- The cc code (R124). -/
def Cond.code : Cond → Nat
  | .nz => 0
  | .z => 1
  | .nc => 2
  | .c => 3
  | .po => 4
  | .pe => 5
  | .p => 6
  | .m => 7

/-- The DD or FD byte (R128). -/
def Idx.byte : Idx → Byte
  | .ix => 0xDD
  | .iy => 0xFD

/-- An opcode byte from its fields x, y, z (R121). -/
def opByte (x y z : Nat) : Byte := BitVec.ofNat 8 (64 * x + 8 * y + z)

/-- An opcode byte from its fields x, p, q, z (R121). -/
def opByteP (x p q z : Nat) : Byte := opByte x (2 * p + q) z

/-- `nn[7:0]`, the byte that comes first (R130). -/
def loOf (w : Word) : Byte := w.extractLsb' 0 8

/-- `nn[15:8]`. -/
def hiOf (w : Word) : Byte := w.extractLsb' 8 8

/-- An opcode followed by nn, low byte first (R130). -/
def opNn (op : Byte) (nn : Word) : List Byte := [op, loOf nn, hiOf nn]

/-- A DDCB/FDCB instruction (R137, format XCB of R120). -/
def xcb (i : Idx) (d : Byte) (x y z : Nat) : List Byte := [i.byte, 0xCB, d, opByte x y z]

/-- The bytes of an instruction: its row of spec/opcode_table.json with the operands put in (R133 to R137). For an ignored
prefix they are the prefix and the byte the decoder looks at after it (R361). -/
def encode : Instr → List Byte
  | .nop => [opByte 0 0 0]
  | .exAfAf => [opByte 0 1 0]
  | .djnz e => [opByte 0 2 0, e]
  | .jr e => [opByte 0 3 0, e]
  | .jrCc cc e => [opByte 0 (4 + cc.code) 0, e]
  | .ldDdNn dd nn => opNn (opByteP 0 dd.code 0 1) nn
  | .addHlSs ss => [opByteP 0 ss.code 1 1]
  | .ldBcA => [opByteP 0 0 0 2]
  | .ldDeA => [opByteP 0 1 0 2]
  | .ldMemHl nn => opNn (opByteP 0 2 0 2) nn
  | .ldMemA nn => opNn (opByteP 0 3 0 2) nn
  | .ldABc => [opByteP 0 0 1 2]
  | .ldADe => [opByteP 0 1 1 2]
  | .ldHlMem nn => opNn (opByteP 0 2 1 2) nn
  | .ldAMem nn => opNn (opByteP 0 3 1 2) nn
  | .incSs ss => [opByteP 0 ss.code 0 3]
  | .decSs ss => [opByteP 0 ss.code 1 3]
  | .incR r => [opByte 0 r.code 4]
  | .incM => [opByte 0 6 4]
  | .decR r => [opByte 0 r.code 5]
  | .decM => [opByte 0 6 5]
  | .ldRN r n => [opByte 0 r.code 6, n]
  | .ldMN n => [opByte 0 6 6, n]
  | .rlca => [opByte 0 0 7]
  | .rrca => [opByte 0 1 7]
  | .rla => [opByte 0 2 7]
  | .rra => [opByte 0 3 7]
  | .daa => [opByte 0 4 7]
  | .cpl => [opByte 0 5 7]
  | .scf => [opByte 0 6 7]
  | .ccf => [opByte 0 7 7]
  | .ldRR r r2 => [opByte 1 r.code r2.code]
  | .ldRM r => [opByte 1 r.code 6]
  | .ldMR r => [opByte 1 6 r.code]
  | .halt => [opByte 1 6 6]
  | .addAR r => [opByte 2 0 r.code]
  | .addAM => [opByte 2 0 6]
  | .addAN n => [opByte 3 0 6, n]
  | .adcAR r => [opByte 2 1 r.code]
  | .adcAM => [opByte 2 1 6]
  | .adcAN n => [opByte 3 1 6, n]
  | .subR r => [opByte 2 2 r.code]
  | .subM => [opByte 2 2 6]
  | .subN n => [opByte 3 2 6, n]
  | .sbcAR r => [opByte 2 3 r.code]
  | .sbcAM => [opByte 2 3 6]
  | .sbcAN n => [opByte 3 3 6, n]
  | .andR r => [opByte 2 4 r.code]
  | .andM => [opByte 2 4 6]
  | .andN n => [opByte 3 4 6, n]
  | .xorR r => [opByte 2 5 r.code]
  | .xorM => [opByte 2 5 6]
  | .xorN n => [opByte 3 5 6, n]
  | .orR r => [opByte 2 6 r.code]
  | .orM => [opByte 2 6 6]
  | .orN n => [opByte 3 6 6, n]
  | .cpR r => [opByte 2 7 r.code]
  | .cpM => [opByte 2 7 6]
  | .cpN n => [opByte 3 7 6, n]
  | .retCc cc => [opByte 3 cc.code 0]
  | .popQq qq => [opByteP 3 qq.code 0 1]
  | .ret => [opByteP 3 0 1 1]
  | .exx => [opByteP 3 1 1 1]
  | .jpHl => [opByteP 3 2 1 1]
  | .ldSpHl => [opByteP 3 3 1 1]
  | .jpCcNn cc nn => opNn (opByte 3 cc.code 2) nn
  | .jpNn nn => opNn (opByte 3 0 3) nn
  | .outNA n => [opByte 3 2 3, n]
  | .inAN n => [opByte 3 3 3, n]
  | .exSpHl => [opByte 3 4 3]
  | .exDeHl => [opByte 3 5 3]
  | .di => [opByte 3 6 3]
  | .ei => [opByte 3 7 3]
  | .callCcNn cc nn => opNn (opByte 3 cc.code 4) nn
  | .pushQq qq => [opByteP 3 qq.code 0 5]
  | .callNn nn => opNn (opByteP 3 0 1 5) nn
  | .rst p => [opByte 3 p.toNat 7]
  | .rlcR r => [0xCB, opByte 0 0 r.code]
  | .rlcM => [0xCB, opByte 0 0 6]
  | .rrcR r => [0xCB, opByte 0 1 r.code]
  | .rrcM => [0xCB, opByte 0 1 6]
  | .rlR r => [0xCB, opByte 0 2 r.code]
  | .rlM => [0xCB, opByte 0 2 6]
  | .rrR r => [0xCB, opByte 0 3 r.code]
  | .rrM => [0xCB, opByte 0 3 6]
  | .slaR r => [0xCB, opByte 0 4 r.code]
  | .slaM => [0xCB, opByte 0 4 6]
  | .sraR r => [0xCB, opByte 0 5 r.code]
  | .sraM => [0xCB, opByte 0 5 6]
  | .sllR r => [0xCB, opByte 0 6 r.code]
  | .sllM => [0xCB, opByte 0 6 6]
  | .srlR r => [0xCB, opByte 0 7 r.code]
  | .srlM => [0xCB, opByte 0 7 6]
  | .bitR b r => [0xCB, opByte 1 b.toNat r.code]
  | .bitM b => [0xCB, opByte 1 b.toNat 6]
  | .resR b r => [0xCB, opByte 2 b.toNat r.code]
  | .resM b => [0xCB, opByte 2 b.toNat 6]
  | .setR b r => [0xCB, opByte 3 b.toNat r.code]
  | .setM b => [0xCB, opByte 3 b.toNat 6]
  | .inRC r => [0xED, opByte 1 r.code 0]
  | .inFC => [0xED, opByte 1 6 0]
  | .outCR r => [0xED, opByte 1 r.code 1]
  | .outC0 => [0xED, opByte 1 6 1]
  | .sbcHlSs ss => [0xED, opByteP 1 ss.code 0 2]
  | .adcHlSs ss => [0xED, opByteP 1 ss.code 1 2]
  | .ldMemDd dd nn => 0xED :: opNn (opByteP 1 dd.code 0 3) nn
  | .ldDdMem dd nn => 0xED :: opNn (opByteP 1 dd.code 1 3) nn
  | .neg y => [0xED, opByte 1 y.toNat 4]
  | .retn y => [0xED, opByte 1 y.toNat 5]
  | .reti => [0xED, opByte 1 1 5]
  | .im0 y => [0xED, opByte 1 y.toNat 6]
  | .im1 y => [0xED, opByte 1 y.toNat 6]
  | .im2 y => [0xED, opByte 1 y.toNat 6]
  | .ldIA => [0xED, opByte 1 0 7]
  | .ldRA => [0xED, opByte 1 1 7]
  | .ldAI => [0xED, opByte 1 2 7]
  | .ldAR => [0xED, opByte 1 3 7]
  | .rrd => [0xED, opByte 1 4 7]
  | .rld => [0xED, opByte 1 5 7]
  | .ldi => [0xED, opByte 2 4 0]
  | .cpi => [0xED, opByte 2 4 1]
  | .ini => [0xED, opByte 2 4 2]
  | .outi => [0xED, opByte 2 4 3]
  | .ldd => [0xED, opByte 2 5 0]
  | .cpd => [0xED, opByte 2 5 1]
  | .ind => [0xED, opByte 2 5 2]
  | .outd => [0xED, opByte 2 5 3]
  | .ldir => [0xED, opByte 2 6 0]
  | .cpir => [0xED, opByte 2 6 1]
  | .inir => [0xED, opByte 2 6 2]
  | .otir => [0xED, opByte 2 6 3]
  | .lddr => [0xED, opByte 2 7 0]
  | .cpdr => [0xED, opByte 2 7 1]
  | .indr => [0xED, opByte 2 7 2]
  | .otdr => [0xED, opByte 2 7 3]
  | .nopEd1 y => [0xED, opByte 1 y.toNat 7]
  | .nopEd0 x => [0xED, BitVec.ofNat 8 x.toNat]
  | .nopEd3 x => [0xED, BitVec.ofNat 8 (192 + x.toNat)]
  | .nopEd2 y z => [0xED, opByte 2 y.toNat z.toNat]
  | .addIxPp i pp => [i.byte, opByteP 0 pp.code 1 1]
  | .ldIxNn i nn => i.byte :: opNn (opByteP 0 2 0 1) nn
  | .ldMemIx i nn => i.byte :: opNn (opByteP 0 2 0 2) nn
  | .incIx i => [i.byte, opByteP 0 2 0 3]
  | .ldIxMem i nn => i.byte :: opNn (opByteP 0 2 1 2) nn
  | .decIx i => [i.byte, opByteP 0 2 1 3]
  | .incHalf i h => [i.byte, opByte 0 h.code 4]
  | .decHalf i h => [i.byte, opByte 0 h.code 5]
  | .ldHalfN i h n => [i.byte, opByte 0 h.code 6, n]
  | .incX i d => [i.byte, opByte 0 6 4, d]
  | .decX i d => [i.byte, opByte 0 6 5, d]
  | .ldXN i d n => [i.byte, opByte 0 6 6, d, n]
  | .ldRxRy i r r2 => [i.byte, opByte 1 r.code r2.code]
  | .ldRX i r d => [i.byte, opByte 1 r.code 6, d]
  | .ldXR i d r => [i.byte, opByte 1 6 r.code, d]
  | .addAHalf i h => [i.byte, opByte 2 0 h.code]
  | .addAX i d => [i.byte, opByte 2 0 6, d]
  | .adcAHalf i h => [i.byte, opByte 2 1 h.code]
  | .adcAX i d => [i.byte, opByte 2 1 6, d]
  | .subHalf i h => [i.byte, opByte 2 2 h.code]
  | .subX i d => [i.byte, opByte 2 2 6, d]
  | .sbcAHalf i h => [i.byte, opByte 2 3 h.code]
  | .sbcAX i d => [i.byte, opByte 2 3 6, d]
  | .andHalf i h => [i.byte, opByte 2 4 h.code]
  | .andX i d => [i.byte, opByte 2 4 6, d]
  | .xorHalf i h => [i.byte, opByte 2 5 h.code]
  | .xorX i d => [i.byte, opByte 2 5 6, d]
  | .orHalf i h => [i.byte, opByte 2 6 h.code]
  | .orX i d => [i.byte, opByte 2 6 6, d]
  | .cpHalf i h => [i.byte, opByte 2 7 h.code]
  | .cpX i d => [i.byte, opByte 2 7 6, d]
  | .popIx i => [i.byte, opByteP 3 2 0 1]
  | .exSpIx i => [i.byte, opByte 3 4 3]
  | .pushIx i => [i.byte, opByteP 3 2 0 5]
  | .jpIx i => [i.byte, opByteP 3 2 1 1]
  | .ldSpIx i => [i.byte, opByteP 3 3 1 1]
  | .ignoredPrefix i next => [i.byte, next]
  | .rlcX i d => xcb i d 0 0 6
  | .rlcXR i d r => xcb i d 0 0 r.code
  | .rrcX i d => xcb i d 0 1 6
  | .rrcXR i d r => xcb i d 0 1 r.code
  | .rlX i d => xcb i d 0 2 6
  | .rlXR i d r => xcb i d 0 2 r.code
  | .rrX i d => xcb i d 0 3 6
  | .rrXR i d r => xcb i d 0 3 r.code
  | .slaX i d => xcb i d 0 4 6
  | .slaXR i d r => xcb i d 0 4 r.code
  | .sraX i d => xcb i d 0 5 6
  | .sraXR i d r => xcb i d 0 5 r.code
  | .sllX i d => xcb i d 0 6 6
  | .sllXR i d r => xcb i d 0 6 r.code
  | .srlX i d => xcb i d 0 7 6
  | .srlXR i d r => xcb i d 0 7 r.code
  | .bitX i d b z => xcb i d 1 b.toNat z.toNat
  | .resX i d b => xcb i d 2 b.toNat 6
  | .resXR i d b r => xcb i d 2 b.toNat r.code
  | .setX i d b => xcb i d 3 b.toNat 6
  | .setXR i d b r => xcb i d 3 b.toNat r.code

end Sys2Proof
end

