-- ==== Sys2Proof/Machine/Memory.lean ====
section
/-! DEFINITION. The memory image (20_memory.md R80): 65536 bytes, held as a list of cells with strictly rising addresses in
which no cell holds the byte an unlisted address reads as. Equal memories are equal lists. -/

namespace Sys2Proof

/-- The memory image as data. -/
abbrev Memory := List Host.Cell

namespace Memory

/-- What an address that is not listed reads as. R85: "No location has a reset value of its own"; the model takes 0
(DESIGN CHOICE, unsafe, log 4). -/
def blank : Byte := 0

/-- The number of locations (R80). -/
def size : Nat := 65536

/-- The byte at address `a`. -/
def get : Memory → Nat → Byte
  | [], _ => blank
  | (k, v) :: rest, a => if k = a then v else get rest a

/-- `v` stored at address `a`, keeping the canonical form: a cell that would hold the blank byte is left out. -/
def set : Memory → Nat → Byte → Memory
  | [], a, v => if v = blank then [] else [(a, v)]
  | (k, w) :: rest, a, v =>
    if k < a then (k, w) :: set rest a v
    else if k = a then (if v = blank then rest else (a, v) :: rest)
    else if v = blank then (k, w) :: rest else (a, v) :: (k, w) :: rest

/-- The canonical form from address `lo` on. -/
def wfFrom : Nat → Memory → Bool
  | _, [] => true
  | lo, (k, v) :: rest => decide (lo ≤ k) && decide (k < size) && v != blank && wfFrom (k + 1) rest

/-- The canonical form: addresses below 65536 and strictly rising, no cell blank. -/
def wf (m : Memory) : Bool := wfFrom 0 m

end Memory

end Sys2Proof
end

