-- ==== Sys2Proof/Config.lean ====
section
/-! DEFINITION. What is fixed for one machine: the free values (constants with no body) and the types of the parameters of
rule R8. The parameters' default values stand in Sys2Proof/Machine/Params.lean. -/

namespace Sys2Proof

/-! ## Free values

Each is a constant with no body: nothing in Lean can tell its value, so a statement about it holds whatever it is. The free
interrupt lines are functions of the whole state and stand after it, at the end of Sys2Proof/Machine/State.lean. -/

namespace Config

/-- The byte `on_port_read` answers outside the tape-loading environment when no answer was put in State (R91: "The core
makes no assumption about that value"). Arguments: the boundary's number, T0, the port. Log 6. -/
opaque freePortByte (boundary t0 : Nat) (port : Word) : Byte

/-- The byte a free `PORT_READ` answers in the tape-loading environment: some function of (port, T), as R8 says. Log 30. -/
opaque freePortRead (port : Word) (t : Nat) : Byte

/-- Whether a free Tracer answers `stop` to the call numbered `call` of a boundary (R176). Log 7. -/
opaque freeStop (boundary call : Nat) : Bool

end Config

/-! ## Functions a platform gives, as plain data -/

/-- A number computed from inputs of type `V`: the form in which State holds a function a caller gives (R8, logs 5, 30).
Subtraction stops at 0, and division by 0 gives 0, as in Nat. -/
inductive InputExpr (V : Type) where
  | const (n : Nat)
  | input (v : V)
  | add (a b : InputExpr V)
  | sub (a b : InputExpr V)
  | mul (a b : InputExpr V)
  | div (a b : InputExpr V)
  | mod (a b : InputExpr V)
  | bitAnd (a b : InputExpr V)
  | bitOr (a b : InputExpr V)
  | bitXor (a b : InputExpr V)
  /-- `c` while `a < b`, else `d`. -/
  | ifLess (a b c d : InputExpr V)
  deriving DecidableEq, Repr

/-- The value of an expression, from the values of its inputs. -/
def InputExpr.eval {V : Type} (value : V → Nat) : InputExpr V → Nat
  | .const n => n
  | .input v => value v
  | .add a b => a.eval value + b.eval value
  | .sub a b => a.eval value - b.eval value
  | .mul a b => a.eval value * b.eval value
  | .div a b => a.eval value / b.eval value
  | .mod a b => a.eval value % b.eval value
  | .bitAnd a b => a.eval value &&& b.eval value
  | .bitOr a b => a.eval value ||| b.eval value
  | .bitXor a b => a.eval value ^^^ b.eval value
  | .ifLess a b c d => if a.eval value < b.eval value then c.eval value else d.eval value

/-- The inputs of a `PORT_READ` function (R8). -/
inductive PortVar where
  | port
  | t
  deriving DecidableEq, Repr

/-! ## The parameters' types (R8) -/

/-- `ED_UNDEFINED`: what an undefined ED opcode does (R362, D4). -/
inductive EdUndefined where
  | nop
  | fault
  deriving DecidableEq, Repr

/-- `F53_SCF_CCF`: the source of F5 and F3 for SCF and CCF. R8 gives it the one value A (R270, R271, D11). -/
inductive F53Source where
  | fromA
  deriving DecidableEq, Repr

/-- One item of an accelerator signature: "a tagged two-variant type", never a sentinel byte (R450). -/
inductive SigItem where
  | literal (b : Byte)
  | wildcard
  deriving DecidableEq, Repr

/-- An accelerator entry (R450). -/
structure Accelerator where
  name      : String
  signature : List SigItem
  inTime    : Nat
  loopTime  : Nat
  loopRInc  : Nat
  earMask   : Byte
  deriving DecidableEq, Repr

/-- The accelerator registry: canonical entries in order, and a table from a second name to a canonical name (R450). -/
structure Registry where
  entries    : List Accelerator
  otherNames : List (String × String)
  deriving DecidableEq, Repr

/-- `ACCELERATOR_SELECTION` (R456). -/
inductive AccelSelection where
  | auto
  | none
  | names (l : List String)
  deriving DecidableEq, Repr

/-- `PORT_READ`: the port answer in the tape-loading environment, a function of (port, T) (R8, U36, log 30). -/
inductive PortReadRule where
  /-- Rule R425, the default. -/
  | ula
  /-- This function of (port, T), its value modulo 256. -/
  | function (e : InputExpr PortVar)
  /-- Any function of (port, T): nothing constrains it. -/
  | free
  /-- The same answers as outside the tape-loading environment. -/
  | platform
  deriving DecidableEq, Repr

/-- `LOAD_STOP` (R477). -/
inductive LoadStop where
  | auto
  | start (a : Word)
  deriving DecidableEq, Repr

/-- `TAPE_KIND`: the container format given to `decode_tape` (R401). It has no default and is an argument of the load. -/
inductive TapeKind where
  | tap
  | tzx
  deriving DecidableEq, Repr

/-- The parameters of R8 that a step or a load reads. State carries one such record, and no step changes it (log 8). -/
structure Params where
  edUndefined   : EdUndefined
  romLimit      : Nat
  intBusByte    : Byte
  f53ScfCcf     : F53Source
  tstatesPerMs  : Nat
  tzxUnsupported : List Byte
  /-- `TAPE_START_T`: `none` is the default, the value of T when the load run starts (R421, D31). -/
  tapeStartT    : Option Nat
  portRead      : PortReadRule
  fastLoad      : Bool
  selection     : AccelSelection
  registry      : Registry
  ldBytesAddr   : Word
  loadStop      : LoadStop
  deriving DecidableEq, Repr

end Sys2Proof
end

