-- ==== Sys2Proof/Machine/Params.lean ====
section
/-! DEFINITION. The default values of the parameters of rule R8, the `rom` accelerator entry of rule R453 among them. -/

namespace Sys2Proof

/-- The 13 bytes of the `rom` signature (R453): INC B; RET Z; LD A,0x7F; IN A,(0xFE); RRA; RET NC; XOR C; AND 0x20; JR Z. -/
def romSignature : List Byte :=
  [0x04, 0xC8, 0x3E, 0x7F, 0xDB, 0xFE, 0x1F, 0xD0, 0xA9, 0xE6, 0x20, 0x28, 0xF3]

/-- The one canonical entry of the default registry (R453). -/
def romEntry : Accelerator :=
  { name := "rom", signature := romSignature.map .literal, inTime := 16, loopTime := 59, loopRInc := 9, earMask := 0x40 }

/-- The parameters at the defaults of R8. -/
def Params.standard : Params :=
  { edUndefined := .nop, romLimit := 0, intBusByte := 0xFF, f53ScfCcf := .fromA, tstatesPerMs := 3500,
    tzxUnsupported := [0x15, 0x16, 0x17, 0x18, 0x19], tapeStartT := none, portRead := .ula, fastLoad := true,
    selection := .auto, registry := { entries := [romEntry], otherNames := [] }, ldBytesAddr := 0x0556, loadStop := .auto }

end Sys2Proof
end

