-- ==== Sys2Proof/Machine/TapeTypes.lean ====
section
/-! DEFINITION. The data of the Tape Source (47_tape_source.md) and of the Fast-Load Engine's diagnostics: logical blocks, tape
errors, the tape as State holds it, warnings. -/

namespace Sys2Proof.Machine

/-- Where a logical block came from: a TAP record, or the TZX record with this id (R400). -/
inductive Origin where
  | tap
  | tzx (id : Byte)
  deriving DecidableEq, Repr

/-- The fields of a `Data` block (R400): lengths in T-states, counts in pulses. -/
structure DataBlock where
  pilotLen   : Nat
  pilotCount : Nat
  sync1      : Nat
  sync2      : Nat
  zero       : Nat
  one        : Nat
  usedBits   : Nat
  pauseMs    : Nat
  data       : List Byte
  origin     : Origin
  deriving DecidableEq, Repr

/-- A logical block (R400). `pulses` holds runs of equal pulses, each a count and a length, in order: a pure tone is one
run, a pulse sequence has runs of one. -/
inductive Block where
  | data (b : DataBlock)
  | pulses (runs : List (Nat × Nat)) (origin : Origin)
  | pause (ms : Nat) (origin : Origin)
  deriving DecidableEq, Repr

/-- The errors of `decode_tape` (R500, E3 to E6), with the record's offset. -/
inductive TapeError where
  /-- E3 (R404): not a TZX signature. The load ends before any step. -/
  | badSignature
  /-- E4 (R414): an id in no table. -/
  | unknownBlockId (id : Byte) (offset : Nat)
  /-- E5 (R412): an id in `TZX_UNSUPPORTED`, "not supported". -/
  | unsupportedBlock (id : Byte) (offset : Nat)
  /-- E6 (R403, R415): a record that ends past the container. -/
  | truncated (offset : Nat)
  deriving DecidableEq, Repr

/-- The tape in the tape-loading environment (R476): its logical blocks and `TAPE_START_T` (R421). -/
structure Tape where
  blocks : List Block
  startT : Nat
  deriving DecidableEq, Repr

/-- The warnings of the LD-BYTES trap (R471, R500), each with the block's index on the tape. -/
inductive Warning where
  /-- W1: the block's flag byte is not the expected A. -/
  | flagMismatch (index : Nat) (flag a : Byte)
  /-- W2: a `Data` block with no bytes. -/
  | emptyBlock (index : Nat)
  /-- W3: a header is expected and the block has fewer than 19 bytes. -/
  | truncatedHeader (index : Nat)
  deriving DecidableEq, Repr

end Sys2Proof.Machine
end

