-- ==== Sys2Proof/Machine/State.lean ====
section
/-! DEFINITION. The state of the core: everything 10_state.md, 20_memory.md, 40_execution_cycle.md, 47_tape_source.md and
48_fast_load.md give it, the parameters of R8 and the platform's inputs, all plain data. -/

namespace Sys2Proof.Machine

/-- The interrupt mode (R39): 0, 1 or 2; "the value 3 never occurs". -/
inductive IntMode where
  | im0 | im1 | im2
  deriving DecidableEq, Repr

/-- INT_BLOCKED (R51). -/
inductive IntBlocked where
  | none | afterEi | afterPrefix
  deriving DecidableEq, Repr

/-- The faults a step can end in (R178, R500). A fault changes no state: the machine is as at the boundary before it. -/
inductive Fault where
  /-- E1 `InterpreterFault.UndefinedOpcode` (R362): an undefined ED opcode `ED op` at `pc0` while `ED_UNDEFINED = fault`.
  Raised by the four meanings of the undefined ED rows. Safe: the spec's own fault. -/
  | undefinedOpcode (pc0 : Word) (op : Byte)
  /-- E2 `InterpreterFault.Im0BusByte` (R512): an IM 0 acknowledge whose bus byte is no RST. Raised by the maskable
  acceptance. Safe: the spec's own fault. -/
  | im0BusByte (bus : Byte) (pc : Word)
  /-- E7 `LoadError.UnexpectedEndOfTape` (R462, R471): a fast-load step with no tape left. Raised by the accelerator step
  (where no edge can end the wait, or the loop never ends, log 15) and by the LD-BYTES trap. Safe: the spec's own fault. -/
  | unexpectedEndOfTape (pc : Word) (t : Nat)
  deriving DecidableEq, Repr

/-- Why a step is refused. -/
inductive Refusal where
  /-- An instruction without a meaning. Raised by an arm of exec; no arm does. Safe: nothing runs. -/
  | notModelled (mnemonic : String)
  /-- The run is `stopped` or `faulted` and "takes no further step" (R55, R176). Raised by `step`. Safe: nothing runs. -/
  | runOver
  deriving DecidableEq, Repr

/-- RUN_STATUS (R55). -/
inductive RunStatus where
  | running
  | stopped
  | faulted (kind : Fault)
  deriving DecidableEq, Repr

/-- The main register set, the index registers and SP (R30, R33, R34). A pair is a view of its halves (R31), a half of IX or
IY a view of the whole (R33). -/
structure Regs where
  a : Byte
  f : Byte
  b : Byte
  c : Byte
  d : Byte
  e : Byte
  h : Byte
  l : Byte
  ix : Word
  iy : Word
  sp : Word
  deriving DecidableEq, Repr

/-- The shadow set A' F' B' C' D' E' H' L' (R32). -/
structure Shadow where
  a : Byte
  f : Byte
  b : Byte
  c : Byte
  d : Byte
  e : Byte
  h : Byte
  l : Byte
  deriving DecidableEq, Repr

/-- The instruction record handed to `on_instruction` (R175), without its diagnostic string (D39, log 10). -/
structure InsnRecord where
  addr  : Word
  bytes : List Byte
  cost  : Nat
  deriving DecidableEq, Repr

/-- A port write handed to `on_port_write` (R92, R380): the port, the byte, and the T0 it sees. -/
structure PortWrite where
  port  : Word
  value : Byte
  t0    : Nat
  deriving DecidableEq, Repr

/-- What the Tracer has been handed, and what it has answered inside the running step. -/
structure Trace where
  /-- The record of the last step, none where the step makes none (R175). -/
  record : Option InsnRecord
  /-- The port writes so far, newest first (R92). -/
  portWrites : List PortWrite
  /-- The border colour the Tracer records in the tape-loading environment (R92, R524); none until it has recorded one. -/
  border : Option (BitVec 3)
  /-- A Tracer call of the running step answered `stop` (R176). False at every boundary. -/
  stopPending : Bool
  deriving DecidableEq, Repr

/-! ## Register identifiers (R53) -/

/-- The 8-bit registers of the identifier set of R53. -/
inductive ByteId where
  | a | f | b | c | d | e | h | l
  | a' | f' | b' | c' | d' | e' | h' | l'
  | ixh | ixl | iyh | iyl
  | i | r
  deriving DecidableEq, Repr

/-- The 16-bit registers and derived pairs of R53. -/
inductive WordId where
  | sp | pc
  | af | bc | de | hl
  | af' | bc' | de' | hl'
  | ix | iy
  deriving DecidableEq, Repr

/-- What a predicate on the state can ask of it (R8: `INT_REQUEST` and `NMI_REQUEST`). -/
inductive StateVar where
  /-- An 8-bit register. -/
  | byte (id : ByteId)
  /-- A 16-bit register or pair. -/
  | word (id : WordId)
  /-- The byte of memory at an address. -/
  | memory (a : Word)
  | t
  /-- 1 where the flip-flop or bit is set, else 0. -/
  | iff1 | iff2 | halted
  | im
  | memptr
  /-- 0 for none, 1 for after_ei, 2 for after_prefix. -/
  | intBlocked
  /-- The number of boundaries passed (log 21). -/
  | boundary
  deriving DecidableEq, Repr

/-- A yes/no input of the platform, as plain data (log 5, log 7). -/
inductive LineSource where
  /-- Never. -/
  | never
  /-- Always. -/
  | always
  /-- While `T mod period < width` (R510: the 48K frame interrupt is `frame 69888 32`). -/
  | frame (period width : Nat)
  /-- While `lo ≤ T < hi`. -/
  | window (lo hi : Nat)
  /-- One answer for each time it is asked, then never. -/
  | schedule (answers : List Bool)
  /-- This predicate on the state: the expression's value is not 0. -/
  | predicate (e : InputExpr StateVar)
  /-- Any predicate on the state: nothing constrains it. -/
  | free
  deriving DecidableEq, Repr

/-- The Tracer's port-read answers outside the tape-loading environment (R91), as plain data (log 6). -/
inductive PortSource where
  /-- The same byte for every port. -/
  | constant (v : Byte)
  /-- These bytes in order, then free values. -/
  | answers (l : List Byte)
  /-- A free value each time. -/
  | free
  deriving DecidableEq, Repr

/-- The platform's inputs (R91, R176, R510, R511). -/
structure Env where
  /-- NMI_REQUEST. -/
  nmi : LineSource
  /-- INT_REQUEST. -/
  int : LineSource
  /-- The Tracer's continue/stop answers: asked once by each Tracer call. -/
  tracer : LineSource
  ports : PortSource
  /-- The number of boundaries passed: the model's own, it only indexes the free values (log 21). -/
  boundary : Nat
  deriving DecidableEq, Repr

/-- The state of the core. -/
structure State where
  regs   : Regs
  shadow : Shadow
  /-- PC (R35). -/
  pc     : Word
  /-- I, the interrupt vector register (R36). -/
  i      : Byte
  /-- R, the memory refresh register (R37). -/
  r      : Byte
  iff1   : Bool
  iff2   : Bool
  im     : IntMode
  /-- MEMPTR (R50). -/
  memptr : Word
  intBlocked : IntBlocked
  halted : Bool
  /-- T, the running T-state count, unbounded (R54). -/
  t      : Nat
  runStatus : RunStatus
  mem    : Memory
  trace  : Trace
  env    : Env
  /-- The tape, in the tape-loading environment (R476); none outside it. -/
  tape   : Option Tape
  /-- The diagnostic list (R502), oldest first. -/
  warnings : List Warning
  params : Params
  deriving DecidableEq, Repr

/-- The state after a hardware reset (R57, R550) of a machine with the default parameters and nothing placed in memory.
The registers R57 leaves unspecified hold 0 (DESIGN CHOICE, log 3); INT_REQUEST is never (log 5), the Tracer never stops
(log 7), port answers are free (log 6). -/
def State.reset : State :=
  { regs := { a := 0xFF, f := 0xFF, b := 0, c := 0, d := 0, e := 0, h := 0, l := 0, ix := 0, iy := 0, sp := 0xFFFF }
    shadow := { a := 0, f := 0, b := 0, c := 0, d := 0, e := 0, h := 0, l := 0 }
    pc := 0x0000
    i := 0x00
    r := 0x00
    iff1 := false
    iff2 := false
    im := .im0
    memptr := 0
    intBlocked := .none
    halted := false
    t := 0
    runStatus := .running
    mem := []
    trace := { record := none, portWrites := [], border := none, stopPending := false }
    env := { nmi := .never, int := .never, tracer := .never, ports := .free, boundary := 0 }
    tape := none
    warnings := []
    params := Params.standard }

end Sys2Proof.Machine

/-! ## Free values that are functions of the whole state -/

namespace Sys2Proof.Config

/-- Whether a free INT line is asserted at a boundary: some predicate on the state there (R8, R510; `INT_REQUEST` is OPEN).
Log 5. -/
opaque freeInt (s : Machine.State) : Bool

/-- Whether a free NMI line is asserted at a boundary: some predicate on the state there (R8, R511). Log 5. -/
opaque freeNmi (s : Machine.State) : Bool

end Sys2Proof.Config
end

