-- ==== Sys2Proof/Machine/Flags.lean ====
section
/-! DEFINITION. The flag register F (10_state.md R40 to R49) and every flag computation of files 42 to 45: each takes operand
bytes and the old F and gives the result with the new F. Operands are read as numbers, the exact result is computed, and then
narrowed. -/

namespace Sys2Proof.Machine

/-! ## The bits of F (R40) -/

/-- F from its eight bits, S first (R40). -/
def mkF (s z f5 h f3 pv n c : Bool) : Byte :=
  BitVec.ofBool s ++ BitVec.ofBool z ++ BitVec.ofBool f5 ++ BitVec.ofBool h ++ BitVec.ofBool f3 ++ BitVec.ofBool pv
    ++ BitVec.ofBool n ++ BitVec.ofBool c

/-- S, F bit 7 (R41). -/
def flagS (f : Byte) : Bool := f.getLsbD 7

/-- Z, F bit 6 (R42). -/
def flagZ (f : Byte) : Bool := f.getLsbD 6

/-- F5, F bit 5 (R43). -/
def flag5 (f : Byte) : Bool := f.getLsbD 5

/-- H, F bit 4 (R44). -/
def flagH (f : Byte) : Bool := f.getLsbD 4

/-- F3, F bit 3 (R45). -/
def flag3 (f : Byte) : Bool := f.getLsbD 3

/-- P/V, F bit 2 (R46). -/
def flagPV (f : Byte) : Bool := f.getLsbD 2

/-- N, F bit 1 (R47). -/
def flagN (f : Byte) : Bool := f.getLsbD 1

/-- C, F bit 0 (R48). -/
def flagC (f : Byte) : Bool := f.getLsbD 0

/-- `parity(v)`: true for an even number of 1 bits (R11). -/
def parity (v : Byte) : Bool :=
  !(v.getLsbD 0 ^^ v.getLsbD 1 ^^ v.getLsbD 2 ^^ v.getLsbD 3 ^^ v.getLsbD 4 ^^ v.getLsbD 5 ^^ v.getLsbD 6 ^^ v.getLsbD 7)

/-- S, Z, F5 and F3 from a result byte, with the other four bits given: `sz53` of R11 with H, P/V, N and C put in. -/
def szF (v : Byte) (h pv n c : Bool) : Byte :=
  mkF (v.getLsbD 7) (v == 0) (v.getLsbD 5) h (v.getLsbD 3) pv n c

/-- `sz53p(v)` of R11, with H, N and C put in: P/V is the parity of v. -/
def szpF (v : Byte) (h n c : Bool) : Byte := szF v h (parity v) n c

/-- The low nibble `v[3:0]` as a number. -/
def nibble (v : Byte) : Nat := v.toNat % 16

/-! ## 8-bit arithmetic (R251, R252, R261, R264) -/

/-- `add8(a, b, c)` (R251): the sum and F. -/
def add8 (a b : Byte) (c : Bool) : Byte × Byte :=
  let t := a.toNat + b.toNat + c.toNat
  let res : Byte := BitVec.ofNat 8 t
  (res, szF res (decide (nibble a + nibble b + c.toNat > 15)) (a.getLsbD 7 == b.getLsbD 7 && res.getLsbD 7 != a.getLsbD 7)
    false (decide (t > 255)))

/-- `sub8(a, b, c)` (R252): the difference and F. -/
def sub8 (a b : Byte) (c : Bool) : Byte × Byte :=
  let t : Int := (a.toNat : Int) - b.toNat - c.toNat
  let res : Byte := BitVec.ofInt 8 t
  (res, szF res (decide (nibble a < nibble b + c.toNat)) (a.getLsbD 7 != b.getLsbD 7 && res.getLsbD 7 != a.getLsbD 7)
    true (decide (t < 0)))

/-- The flags of CP (R260): those of `sub8`, with F5 and F3 from the operand. -/
def cpF (a b : Byte) : Byte :=
  let f := (sub8 a b false).2
  mkF (flagS f) (flagZ f) (b.getLsbD 5) (flagH f) (b.getLsbD 3) (flagPV f) (flagN f) (flagC f)

/-- INC (R261): v + 1 and F; C is kept. -/
def inc8 (v f : Byte) : Byte × Byte :=
  let res := v + 1
  (res, szF res (nibble v == 15) (v == 0x7F) false (flagC f))

/-- DEC (R264): v - 1 and F; C is kept. -/
def dec8 (v f : Byte) : Byte × Byte :=
  let res := v - 1
  (res, szF res (nibble v == 0) (v == 0x80) true (flagC f))

/-- The 8-bit operations of table alu (R125). -/
inductive AluOp where
  | add | adc | sub | sbc | and | xor | or | cp
  deriving DecidableEq, Repr

/-- Operation `op` on A, the operand and F (R253 to R260): the new A and the new F. -/
def alu (op : AluOp) (a v f : Byte) : Byte × Byte :=
  match op with
  | .add => add8 a v false
  | .adc => add8 a v (flagC f)
  | .sub => sub8 a v false
  | .sbc => sub8 a v (flagC f)
  | .and => (a &&& v, szpF (a &&& v) true false false)
  | .xor => (a ^^^ v, szpF (a ^^^ v) false false false)
  | .or => (a ||| v, szpF (a ||| v) false false false)
  | .cp => (a, cpF a v)

/-- DAA (R267): the adjusted A and F. -/
def daa (a f : Byte) : Byte × Byte :=
  let lowFix := flagH f || decide (nibble a > 9)
  let highFix := flagC f || decide (a.toNat > 0x99)
  let corr : Nat := (if lowFix then 6 else 0) + (if highFix then 0x60 else 0)
  let res : Byte := if flagN f then BitVec.ofInt 8 ((a.toNat : Int) - corr) else BitVec.ofNat 8 (a.toNat + corr)
  let h := if flagN f then flagH f && decide (nibble a < 6) else decide (nibble a > 9)
  (res, szpF res h (flagN f) highFix)

/-- CPL (R268). -/
def cpl (a f : Byte) : Byte × Byte :=
  let res := ~~~a
  (res, mkF (flagS f) (flagZ f) (res.getLsbD 5) true (res.getLsbD 3) (flagPV f) true (flagC f))

/-- The byte F5 and F3 come from in SCF and CCF: parameter `F53_SCF_CCF` (D11). -/
def scfSource (p : F53Source) (a : Byte) : Byte :=
  match p with
  | .fromA => a

/-- CCF (R270): F. -/
def ccfF (src f : Byte) : Byte :=
  mkF (flagS f) (flagZ f) (src.getLsbD 5) (flagC f) (src.getLsbD 3) (flagPV f) false (!flagC f)

/-- SCF (R271): F. -/
def scfF (src f : Byte) : Byte :=
  mkF (flagS f) (flagZ f) (src.getLsbD 5) false (src.getLsbD 3) (flagPV f) false true

/-! ## 16-bit arithmetic (R272 to R275) -/

/-- The low 12 bits `v[11:0]` as a number. -/
def low12 (v : Word) : Nat := v.toNat % 4096

/-- ADD HL,ss (R272): the sum and F; S, Z and P/V are kept. -/
def add16 (a b : Word) (f : Byte) : Word × Byte :=
  let t := a.toNat + b.toNat
  let res : Word := BitVec.ofNat 16 t
  (res, mkF (flagS f) (flagZ f) (res.getLsbD 13) (decide (low12 a + low12 b > 0xFFF)) (res.getLsbD 11) (flagPV f) false
    (decide (t > 0xFFFF)))

/-- ADC HL,ss (R273): the sum and F. -/
def adc16 (a b : Word) (f : Byte) : Word × Byte :=
  let c := (flagC f).toNat
  let t := a.toNat + b.toNat + c
  let res : Word := BitVec.ofNat 16 t
  (res, mkF (res.getLsbD 15) (res == 0) (res.getLsbD 13) (decide (low12 a + low12 b + c > 0xFFF)) (res.getLsbD 11)
    (a.getLsbD 15 == b.getLsbD 15 && res.getLsbD 15 != a.getLsbD 15) false (decide (t > 0xFFFF)))

/-- SBC HL,ss (R274): the difference and F. -/
def sbc16 (a b : Word) (f : Byte) : Word × Byte :=
  let c := (flagC f).toNat
  let t : Int := (a.toNat : Int) - b.toNat - c
  let res : Word := BitVec.ofInt 16 t
  (res, mkF (res.getLsbD 15) (res == 0) (res.getLsbD 13) (decide (low12 a < low12 b + c)) (res.getLsbD 11)
    (a.getLsbD 15 != b.getLsbD 15 && res.getLsbD 15 != a.getLsbD 15) true (decide (t < 0)))

/-! ## Rotates and shifts (R300 to R304) -/

/-- The operations of table rot (R126). -/
inductive RotOp where
  | rlc | rrc | rl | rr | sla | sra | sll | srl
  deriving DecidableEq, Repr

/-- The result and the carry out of `rot(y, v)` (R304), with the carry in. -/
def rotRes (op : RotOp) (v : Byte) (c : Bool) : Byte × Bool :=
  let left (bit : Bool) : Byte := (v <<< 1) ||| BitVec.ofNat 8 bit.toNat
  let right (bit : Bool) : Byte := (v >>> 1) ||| BitVec.ofNat 8 (bit.toNat * 0x80)
  match op with
  | .rlc => (left (v.getLsbD 7), v.getLsbD 7)
  | .rrc => (right (v.getLsbD 0), v.getLsbD 0)
  | .rl => (left c, v.getLsbD 7)
  | .rr => (right c, v.getLsbD 0)
  | .sla => (left false, v.getLsbD 7)
  | .sra => (right (v.getLsbD 7), v.getLsbD 0)
  | .sll => (left true, v.getLsbD 7)
  | .srl => (right false, v.getLsbD 0)

/-- `rot(y, v)` (R304): the result and F. -/
def rot (op : RotOp) (v f : Byte) : Byte × Byte :=
  let (res, c) := rotRes op v (flagC f)
  (res, szpF res false false c)

/-- The accumulator rotates (R300 to R303): the result and F; S, Z and P/V are kept. -/
def rotA (op : RotOp) (a f : Byte) : Byte × Byte :=
  let (res, c) := rotRes op a (flagC f)
  (res, mkF (flagS f) (flagZ f) (res.getLsbD 5) false (res.getLsbD 3) (flagPV f) false c)

/-! ## Bit test (R315) -/

/-- `bitflags(b, v, src53)` (R315): F; C is kept. -/
def bitF (b : BitVec 3) (v src f : Byte) : Byte :=
  let bit := v.getLsbD b.toNat
  mkF (b == 7 && bit) (!bit) (src.getLsbD 5) true (src.getLsbD 3) (!bit) false (flagC f)

/-- `v | 2^b` (R318). -/
def setBit (b : BitVec 3) (v : Byte) : Byte := v ||| ((1 : Byte) <<< b.toNat)

/-- `v & (0xFF - 2^b)` (R321). -/
def resBit (b : BitVec 3) (v : Byte) : Byte := v &&& ~~~((1 : Byte) <<< b.toNat)

/-! ## Block instructions (R239, R243, R381) and the rest -/

/-- The flags of LDI and LDD (R239): v the byte moved, `more` whether BC is not 0 after it. -/
def blockLdF (v a f : Byte) (more : Bool) : Byte :=
  let n := v + a
  mkF (flagS f) (flagZ f) (n.getLsbD 1) false (n.getLsbD 3) more false (flagC f)

/-- The flags of CPI and CPD (R243). -/
def blockCpF (v a f : Byte) (more : Bool) : Byte :=
  let r := a - v
  let h := decide (nibble a < nibble v)
  let n := r - BitVec.ofNat 8 h.toNat
  mkF (r.getLsbD 7) (r == 0) (n.getLsbD 1) h (n.getLsbD 3) more true (flagC f)

/-- `ioflags(v, k, b)` (R381). -/
def ioF (v : Byte) (k : Nat) (b : Byte) : Byte :=
  szF b (decide (k > 255)) (parity ((BitVec.ofNat 8 k &&& 7) ^^^ b)) (v.getLsbD 7) (decide (k > 255))

/-- The flags of LD A,I and LD A,R (R214): P/V is IFF2, C is kept. -/
def ldAIRF (v f : Byte) (iff2 : Bool) : Byte := szF v false iff2 false (flagC f)

/-- The flags of IN r,(C), RLD and RRD (R313, R383): `sz53p(v) | F.C`. -/
def inF (v f : Byte) : Byte := szpF v false false (flagC f)

end Sys2Proof.Machine
end

