-- ==== Sys2Proof/Machine/Tape.lean ====
section
/-! DEFINITION. The Tape Source (47_tape_source.md): decoding TAP and TZX containers to logical blocks, the blocks as pulses,
the timeline of edges, the EAR level and the EAR input port. -/

namespace Sys2Proof.Machine

/-! ## Reading a container (R405) -/

/-- `n` bytes from offset `off`, little-endian; `none` where they lie past the end. -/
def leField (bytes : List Byte) (off : Nat) : Nat → Option Nat
  | 0 => some 0
  | n + 1 =>
    match bytes[off]?, leField bytes (off + 1) n with
    | some b, some rest => some (b.toNat + 256 * rest)
    | _, _ => none

/-- A field known to lie inside the body (the body's length was checked, R406). -/
def field (bytes : List Byte) (off n : Nat) : Nat := (leField bytes off n).getD 0

/-- The pilot count of standard timing (R402, R409): 8063 for a header, whose first byte is below 128, otherwise 3223. -/
def stdPilotCount (data : List Byte) : Nat :=
  match data with
  | [] => 3223
  | flag :: _ => if flag.toNat < 128 then 8063 else 3223

/-- A `Data` block with the standard ROM timing `STD` (R402). -/
def stdBlock (pauseMs : Nat) (data : List Byte) (origin : Origin) : Block :=
  .data { pilotLen := 2168, pilotCount := stdPilotCount data, sync1 := 667, sync2 := 735, zero := 855, one := 1710,
          usedBits := 8, pauseMs := pauseMs, data := data, origin := origin }

/-! ## TAP (R403) -/

/-- The records of a TAP container from `pos` on; `fuel` bounds the records, and each takes two bytes or more. -/
def decodeTapFrom : Nat → Nat → List Byte → Except TapeError (List Block)
  | 0, _, _ => .ok []
  | fuel + 1, pos, bytes =>
    match bytes with
    | [] => .ok []
    | [_] => .error (.truncated pos)
    | lo :: hi :: rest =>
      let n := lo.toNat + 256 * hi.toNat
      if rest.length < n then .error (.truncated pos)
      else
        match decodeTapFrom fuel (pos + 2 + n) (rest.drop n) with
        | .ok blocks => .ok (stdBlock 1000 (rest.take n) .tap :: blocks)
        | .error e => .error e

/-- `decode_tape` of a TAP container (R403). -/
def decodeTap (bytes : List Byte) : Except TapeError (List Block) :=
  decodeTapFrom (bytes.length + 1) 0 bytes

/-! ## TZX (R404 to R415) -/

/-- The signature (R404): "ZXTape!" followed by 0x1A. -/
def tzxSignature : List Byte := [0x5A, 0x58, 0x54, 0x61, 0x70, 0x65, 0x21, 0x1A]

/-- A row of the block-id table (R407): the body's length is `base + mult * N` with N the field of `fieldLen` bytes at
`fieldOff`. -/
structure TzxRow where
  id       : Byte
  fieldOff : Nat
  fieldLen : Nat
  mult     : Nat
  base     : Nat
  deriving DecidableEq, Repr

/-- The lengths of table R407. -/
def tzxTable : List TzxRow :=
  [ { id := 0x10, fieldOff := 2, fieldLen := 2, mult := 1, base := 4 },
    { id := 0x11, fieldOff := 15, fieldLen := 3, mult := 1, base := 18 },
    { id := 0x12, fieldOff := 0, fieldLen := 0, mult := 0, base := 4 },
    { id := 0x13, fieldOff := 0, fieldLen := 1, mult := 2, base := 1 },
    { id := 0x14, fieldOff := 7, fieldLen := 3, mult := 1, base := 10 },
    { id := 0x15, fieldOff := 5, fieldLen := 3, mult := 1, base := 8 },
    { id := 0x16, fieldOff := 0, fieldLen := 4, mult := 1, base := 4 },
    { id := 0x17, fieldOff := 0, fieldLen := 4, mult := 1, base := 4 },
    { id := 0x18, fieldOff := 0, fieldLen := 4, mult := 1, base := 4 },
    { id := 0x19, fieldOff := 0, fieldLen := 4, mult := 1, base := 4 },
    { id := 0x20, fieldOff := 0, fieldLen := 0, mult := 0, base := 2 },
    { id := 0x21, fieldOff := 0, fieldLen := 1, mult := 1, base := 1 },
    { id := 0x22, fieldOff := 0, fieldLen := 0, mult := 0, base := 0 },
    { id := 0x23, fieldOff := 0, fieldLen := 0, mult := 0, base := 2 },
    { id := 0x24, fieldOff := 0, fieldLen := 0, mult := 0, base := 2 },
    { id := 0x25, fieldOff := 0, fieldLen := 0, mult := 0, base := 0 },
    { id := 0x26, fieldOff := 0, fieldLen := 2, mult := 2, base := 2 },
    { id := 0x27, fieldOff := 0, fieldLen := 0, mult := 0, base := 0 },
    { id := 0x28, fieldOff := 0, fieldLen := 2, mult := 1, base := 2 },
    { id := 0x2A, fieldOff := 0, fieldLen := 4, mult := 1, base := 4 },
    { id := 0x2B, fieldOff := 0, fieldLen := 4, mult := 1, base := 4 },
    { id := 0x30, fieldOff := 0, fieldLen := 1, mult := 1, base := 1 },
    { id := 0x31, fieldOff := 1, fieldLen := 1, mult := 1, base := 2 },
    { id := 0x32, fieldOff := 0, fieldLen := 2, mult := 1, base := 2 },
    { id := 0x33, fieldOff := 0, fieldLen := 1, mult := 3, base := 1 },
    { id := 0x34, fieldOff := 0, fieldLen := 0, mult := 0, base := 8 },
    { id := 0x35, fieldOff := 10, fieldLen := 4, mult := 1, base := 14 },
    { id := 0x40, fieldOff := 1, fieldLen := 3, mult := 1, base := 4 },
    { id := 0x5A, fieldOff := 0, fieldLen := 0, mult := 0, base := 9 } ]

/-- The row of an id, if table R407 has one. -/
def tzxRow (id : Byte) : Option TzxRow := tzxTable.find? (fun r => r.id == id)

/-- `used_bits` as recorded (R408): 0 and values above 8 are taken as 8. -/
def usedBitsOf (v : Nat) : Nat := if v = 0 ∨ 8 < v then 8 else v

/-- The `n` pulse lengths of a 0x13 body from offset `off`. -/
def pulseRuns (body : List Byte) (off : Nat) : Nat → List (Nat × Nat)
  | 0 => []
  | n + 1 => (1, field body off 2) :: pulseRuns body (off + 2) n

/-- The column "produces" of table R407 for a whole body. -/
def tzxProduce (id : Byte) (body : List Byte) : List Block :=
  let w (off : Nat) : Nat := field body off 2
  if id = 0x10 then [stdBlock (w 0) (body.drop 4) (.tzx id)]
  else if id = 0x11 then
    [.data { pilotLen := w 0, sync1 := w 2, sync2 := w 4, zero := w 6, one := w 8, pilotCount := w 10,
             usedBits := usedBitsOf (field body 12 1), pauseMs := w 13, data := body.drop 18, origin := .tzx id }]
  else if id = 0x12 then [.pulses [(w 2, w 0)] (.tzx id)]
  else if id = 0x13 then [.pulses (pulseRuns body 1 (field body 0 1)) (.tzx id)]
  else if id = 0x14 then
    [.data { pilotLen := 0, pilotCount := 0, sync1 := 0, sync2 := 0, zero := w 0, one := w 2,
             usedBits := usedBitsOf (field body 4 1), pauseMs := w 5, data := body.drop 10, origin := .tzx id }]
  else if id = 0x20 then (if w 0 = 0 then [] else [.pause (w 0) (.tzx id)])
  else []

/-- The records of a TZX container from offset `pos` on (R406): unsupported, then unknown, then truncated. `fuel` bounds the
records, and each takes one byte or more. -/
def decodeTzxFrom (unsupported : List Byte) : Nat → Nat → List Byte → Except TapeError (List Block)
  | 0, _, _ => .ok []
  | fuel + 1, pos, bytes =>
    match bytes with
    | [] => .ok []
    | id :: rest =>
      if unsupported.contains id then .error (.unsupportedBlock id pos)
      else
        match tzxRow id with
        | none => .error (.unknownBlockId id pos)
        | some row =>
          match leField rest row.fieldOff row.fieldLen with
          | none => .error (.truncated pos)
          | some n =>
            let len := row.base + row.mult * n
            if rest.length < len then .error (.truncated pos)
            else
              match decodeTzxFrom unsupported fuel (pos + 1 + len) (rest.drop len) with
              | .ok blocks => .ok (tzxProduce id (rest.take len) ++ blocks)
              | .error e => .error e

/-- `decode_tape` of a TZX container (R404, R406): 8 bytes of signature and 2 of version, which is not checked. -/
def decodeTzx (unsupported : List Byte) (bytes : List Byte) : Except TapeError (List Block) :=
  if bytes.length < 10 ∨ bytes.take 8 ≠ tzxSignature then .error .badSignature
  else decodeTzxFrom unsupported (bytes.length + 1) 10 (bytes.drop 10)

/-- `decode_tape(container_bytes, kind)` (R401). -/
def decodeTape (unsupported : List Byte) (kind : TapeKind) (bytes : List Byte) : Except TapeError (List Block) :=
  match kind with
  | .tap => decodeTap bytes
  | .tzx => decodeTzx unsupported bytes

/-! ## Messages -/

/-- A hexadecimal digit. -/
def hexDigit (n : Nat) : String := (["0", "1", "2", "3", "4", "5", "6", "7", "8", "9", "A", "B", "C", "D", "E", "F"])[n % 16]!

/-- A byte as R9 writes it: `0x3F`. -/
def hexByte (v : Byte) : String := "0x" ++ hexDigit (v.toNat / 16) ++ hexDigit v.toNat

/-- The column "name" of table R407. -/
def tzxNames : List (Byte × String) :=
  [ (0x10, "standard speed data"),
    (0x11, "turbo speed data"),
    (0x12, "pure tone"),
    (0x13, "pulse sequence"),
    (0x14, "pure data"),
    (0x15, "direct recording"),
    (0x16, "C64 ROM data (deprecated)"),
    (0x17, "C64 turbo data (deprecated)"),
    (0x18, "CSW recording"),
    (0x19, "generalized data"),
    (0x20, "pause / stop the tape"),
    (0x21, "group start"),
    (0x22, "group end"),
    (0x23, "jump to block"),
    (0x24, "loop start"),
    (0x25, "loop end"),
    (0x26, "call sequence"),
    (0x27, "return from sequence"),
    (0x28, "select block"),
    (0x2A, "stop the tape if in 48K mode"),
    (0x2B, "set signal level"),
    (0x30, "text description"),
    (0x31, "message"),
    (0x32, "archive info"),
    (0x33, "hardware type"),
    (0x34, "emulation info (deprecated)"),
    (0x35, "custom info"),
    (0x40, "snapshot (deprecated)"),
    (0x5A, "glue (\"merge\")") ]

/-- How a message names a block type (R412): by its name in table R407, or by its number where the table has none (log 35). -/
def blockTypeName (id : Byte) : String :=
  match tzxNames.find? (fun r => r.1 == id) with
  | some r => r.2
  | none => "block type " ++ hexByte id

/-- The message of a tape error: an unsupported block's "names the block type and says it is not supported" (R412). Only that
much of it is the spec's. -/
def TapeError.message : TapeError → String
  | .badSignature => "bad signature"
  | .unknownBlockId _ _ => "unknown block id"
  | .unsupportedBlock id _ => blockTypeName id ++ " not supported"
  | .truncated _ => "truncated"

/-! ## Pulses (R420) -/

/-- A piece of the signal: `n` pulses of `len` T-states each, or `d` T-states without a level change (R420). -/
inductive Segment where
  | tones (n len : Nat)
  | hold (d : Nat)
  deriving DecidableEq, Repr

/-- The two pulses of one data bit (R420). -/
def bitSegment (b : DataBlock) (bit : Bool) : Segment := .tones 2 (if bit then b.one else b.zero)

/-- The pulses of the `nb` most significant bits of a byte, bit 7 first (R420). -/
def byteSegments (b : DataBlock) (v : Byte) (nb : Nat) : List Segment :=
  ([7, 6, 5, 4, 3, 2, 1, 0].take nb).map (fun j => bitSegment b (v.getLsbD j))

/-- The pulses of the data bytes: all eight bits of each, but `used_bits` of the last (R408, R420). -/
def dataSegments (b : DataBlock) : List Byte → List Segment
  | [] => []
  | [v] => byteSegments b v b.usedBits
  | v :: rest => byteSegments b v 8 ++ dataSegments b rest

/-- A block's segments but for its trailing hold (R420). -/
def Block.pulseSegments : Block → List Segment
  | .data b => .tones b.pilotCount b.pilotLen :: .tones 1 b.sync1 :: .tones 1 b.sync2 :: dataSegments b b.data
  | .pulses runs _ => runs.map (fun r => .tones r.1 r.2)
  | .pause _ _ => []

/-- A block's trailing hold in T-states (R420). -/
def Block.holdTime (perMs : Nat) : Block → Nat
  | .data b => b.pauseMs * perMs
  | .pulses _ _ => 0
  | .pause ms _ => ms * perMs

/-- A block's segments (R420). -/
def Block.segments (perMs : Nat) (b : Block) : List Segment := b.pulseSegments ++ [.hold (b.holdTime perMs)]

/-- The tape: the segments of all its blocks in order (R420). -/
def Tape.segments (perMs : Nat) (tape : Tape) : List Segment := tape.blocks.flatMap (Block.segments perMs)

/-! ## The timeline (R421) -/

/-- The edges of a list of segments from time `tau`, as R421 lists them; `prev` says whether the segment before was a pulse.
A pulse of length 0 and a hold of 0 are omitted (R420). -/
def edgesFrom : List Segment → Nat → Bool → List Nat
  | [], tau, prev => if prev then [tau] else []
  | .tones n len :: rest, tau, prev =>
    if n = 0 ∨ len = 0 then edgesFrom rest tau prev
    else (List.range n).map (fun i => tau + i * len) ++ edgesFrom rest (tau + n * len) true
  | .hold d :: rest, tau, prev =>
    if d = 0 then edgesFrom rest tau prev
    else (if prev then [tau] else []) ++ edgesFrom rest (tau + d) false

/-- The edges of the tape (R421). -/
def Tape.edges (perMs : Nat) (tape : Tape) : List Nat := edgesFrom (tape.segments perMs) tape.startT false

/-- How many of the times `tau, tau + len, …` (`n` of them) are at or before `t`. -/
def tonesUpTo (n len tau t : Nat) : Nat := if t < tau then 0 else min n ((t - tau) / len + 1)

/-- The number of edges at or before `t`, computed without listing them. -/
def edgeCountFrom : List Segment → Nat → Bool → Nat → Nat
  | [], tau, prev, t => if prev && decide (tau ≤ t) then 1 else 0
  | .tones n len :: rest, tau, prev, t =>
    if n = 0 ∨ len = 0 then edgeCountFrom rest tau prev t
    else tonesUpTo n len tau t + edgeCountFrom rest (tau + n * len) true t
  | .hold d :: rest, tau, prev, t =>
    if d = 0 then edgeCountFrom rest tau prev t
    else (if prev && decide (tau ≤ t) then 1 else 0) + edgeCountFrom rest (tau + d) false t

/-- `EAR(t)` (R421): the number of edges at or before `t`, modulo 2. -/
def Tape.ear (perMs : Nat) (tape : Tape) (t : Nat) : Bool :=
  edgeCountFrom (tape.segments perMs) tape.startT false t % 2 == 1

/-- The last edge of a list of segments from `tau`; `last` is the last edge before them. -/
def lastEdgeFrom : List Segment → Nat → Bool → Nat → Nat
  | [], tau, prev, last => if prev then tau else last
  | .tones n len :: rest, tau, prev, last =>
    if n = 0 ∨ len = 0 then lastEdgeFrom rest tau prev last
    else lastEdgeFrom rest (tau + n * len) true (tau + (n - 1) * len)
  | .hold d :: rest, tau, prev, last =>
    if d = 0 then lastEdgeFrom rest tau prev last
    else lastEdgeFrom rest (tau + d) false (if prev then tau else last)

/-- `LAST_EDGE` (R423). -/
def Tape.lastEdge (perMs : Nat) (tape : Tape) : Nat :=
  lastEdgeFrom (tape.segments perMs) tape.startT false tape.startT

/-! ## Landmarks (R422, R423) -/

/-- How long a list of segments lasts. -/
def segmentsTime : List Segment → Nat
  | [] => 0
  | .tones n len :: rest => n * len + segmentsTime rest
  | .hold d :: rest => d + segmentsTime rest

/-- The blocks with the time each starts at, from `tau`. -/
def startsFrom (perMs : Nat) : List Block → Nat → List (Block × Nat)
  | [], _ => []
  | b :: rest, tau => (b, tau) :: startsFrom perMs rest (tau + segmentsTime (b.segments perMs))

/-- `data_end(b)` of a block that starts at `start` (R422): the edge that ends its last pulse. -/
def Block.dataEnd (b : Block) (start : Nat) : Nat := start + segmentsTime b.pulseSegments

/-- `end(b)` of a block that starts at `start` (R422): `data_end(b)` and the pause after it. -/
def Block.endTime (perMs : Nat) (b : Block) (start : Nat) : Nat := b.dataEnd start + b.holdTime perMs

/-- `TAPE_END` (R421). -/
def Tape.endTime (perMs : Nat) (tape : Tape) : Nat := tape.startT + segmentsTime (tape.segments perMs)

/-- The `Data` blocks of the tape, each with its index on the tape and its `data_end`. -/
def dataBlocksFrom : Nat → List (Block × Nat) → List (Nat × DataBlock × Nat)
  | _, [] => []
  | n, (.data b, start) :: rest => (n, b, (Block.data b).dataEnd start) :: dataBlocksFrom (n + 1) rest
  | n, (.pulses _ _, _) :: rest => dataBlocksFrom (n + 1) rest
  | n, (.pause _ _, _) :: rest => dataBlocksFrom (n + 1) rest

/-- The `Data` blocks of the tape in order, each with its index and its `data_end` (R422). -/
def Tape.dataBlocks (perMs : Nat) (tape : Tape) : List (Nat × DataBlock × Nat) :=
  dataBlocksFrom 0 (startsFrom perMs tape.blocks tape.startT)

/-- `LAST_DATA_END` (R423): `data_end` of the last `Data` block that is not empty, or `TAPE_START_T`. -/
def Tape.lastDataEnd (perMs : Nat) (tape : Tape) : Nat :=
  (tape.dataBlocks perMs).foldl (fun acc b => if b.2.1.data.isEmpty then acc else b.2.2) tape.startT

/-! ## The EAR input port (R425) -/

/-- The port answer in the tape-loading environment (R425): EAR on bit 6 of an even port, with no key pressed; 0xFF from an
odd port. -/
def Tape.portAnswer (perMs : Nat) (tape : Tape) (port : Word) (t0 : Nat) : Byte :=
  if port.getLsbD 0 then 0xFF else if tape.ear perMs t0 then 0xFF else 0xBF

end Sys2Proof.Machine
end

