-- ==== Sys2Proof/Machine/Ops.lean ====
section
/-! DEFINITION. The operations every instruction shares: memory, stack and port access (R12, R84, R380), the refresh register
(R37), the T count (R174), the Tracer's calls (R176), and the acceptance of an interrupt with the return from one (R512, R515,
R351). -/

namespace Sys2Proof.Machine

/-- What a meaning answers. -/
abbrev Result := Host.Outcome State Fault Refusal

/-! ## The register file as pairs (R31) -/

namespace Regs

/-- AF = A:F. -/
def af (r : Regs) : Word := wordOf r.a r.f

/-- BC = B:C. -/
def bc (r : Regs) : Word := wordOf r.b r.c

/-- DE = D:E. -/
def de (r : Regs) : Word := wordOf r.d r.e

/-- HL = H:L. -/
def hl (r : Regs) : Word := wordOf r.h r.l

end Regs

namespace State

/-! ## Memory (R12, R80 to R88) -/

/-- `MemRead(a, 1)` (R12). -/
def read (s : State) (a : Word) : Byte := s.mem.get a.toNat

/-- `MemRead(a, 2)`: little-endian, the address wraps (R12, R81, R82). -/
def read16 (s : State) (a : Word) : Word := wordOf (s.read (a + 1)) (s.read a)

/-- `MemWrite(a, 1, v)`: ignored below ROM_LIMIT (R12, R84). -/
def write (s : State) (a : Word) (v : Byte) : State :=
  if a.toNat < s.params.romLimit then s else { s with mem := s.mem.set a.toNat v }

/-- `MemWrite(a, 2, v)`: the low byte first (R12). -/
def write16 (s : State) (a : Word) (v : Word) : State := (s.write a (loOf v)).write (a + 1) (hiOf v)

/-! ## Registers read by identifier (R53) -/

/-- The 8-bit register of an identifier (R53). -/
def getByte (s : State) : ByteId → Byte
  | .a => s.regs.a
  | .f => s.regs.f
  | .b => s.regs.b
  | .c => s.regs.c
  | .d => s.regs.d
  | .e => s.regs.e
  | .h => s.regs.h
  | .l => s.regs.l
  | .a' => s.shadow.a
  | .f' => s.shadow.f
  | .b' => s.shadow.b
  | .c' => s.shadow.c
  | .d' => s.shadow.d
  | .e' => s.shadow.e
  | .h' => s.shadow.h
  | .l' => s.shadow.l
  | .ixh => hiOf s.regs.ix
  | .ixl => loOf s.regs.ix
  | .iyh => hiOf s.regs.iy
  | .iyl => loOf s.regs.iy
  | .i => s.i
  | .r => s.r

/-- The 16-bit register or pair of an identifier (R53, R31, R32). -/
def getWord (s : State) : WordId → Word
  | .sp => s.regs.sp
  | .pc => s.pc
  | .af => s.regs.af
  | .bc => s.regs.bc
  | .de => s.regs.de
  | .hl => s.regs.hl
  | .af' => wordOf s.shadow.a s.shadow.f
  | .bc' => wordOf s.shadow.b s.shadow.c
  | .de' => wordOf s.shadow.d s.shadow.e
  | .hl' => wordOf s.shadow.h s.shadow.l
  | .ix => s.regs.ix
  | .iy => s.regs.iy

/-- The value of one thing a predicate on the state asks. -/
def input (s : State) : StateVar → Nat
  | .byte id => (s.getByte id).toNat
  | .word id => (s.getWord id).toNat
  | .memory a => (s.read a).toNat
  | .t => s.t
  | .iff1 => s.iff1.toNat
  | .iff2 => s.iff2.toNat
  | .halted => s.halted.toNat
  | .im =>
    match s.im with
    | .im0 => 0
    | .im1 => 1
    | .im2 => 2
  | .memptr => s.memptr.toNat
  | .intBlocked =>
    match s.intBlocked with
    | .none => 0
    | .afterEi => 1
    | .afterPrefix => 2
  | .boundary => s.env.boundary

/-! ## Register updates -/

/-- The main register set, SP and the index registers replaced. -/
def setRegs (s : State) (r : Regs) : State := { s with regs := r }

/-- `A <- v`. -/
def setA (s : State) (v : Byte) : State := { s with regs := { s.regs with a := v } }

/-- F replaced whole. -/
def setF (s : State) (v : Byte) : State := { s with regs := { s.regs with f := v } }

/-- A result for A with its F. -/
def setAF (s : State) (r : Byte × Byte) : State := { s with regs := { s.regs with a := r.1, f := r.2 } }

/-- `SP <- v`. -/
def setSp (s : State) (v : Word) : State := { s with regs := { s.regs with sp := v } }

/-- `PC <- v`. -/
def setPc (s : State) (v : Word) : State := { s with pc := v }

/-- `MEMPTR <- v` (R50). -/
def setMemptr (s : State) (v : Word) : State := { s with memptr := v }

/-- `T <- T + n` (R13, R174). -/
def addT (s : State) (n : Nat) : State := { s with t := s.t + n }

/-- `Rinc(n)` (R37): the low 7 bits count modulo 128 and bit 7 keeps its value. -/
def rInc (s : State) (n : Nat) : State :=
  { s with r := BitVec.ofNat 8 (s.r.toNat / 128 * 128 + (s.r.toNat % 128 + n) % 128) }

/-! ## The stack (R12, R34) -/

/-- `Push(v)`: the high byte first, SP goes down by 2. -/
def push (s : State) (v : Word) : State :=
  let s1 := (s.setSp (s.regs.sp - 1)).write (s.regs.sp - 1) (hiOf v)
  (s1.setSp (s.regs.sp - 2)).write (s.regs.sp - 2) (loOf v)

/-- The word `Pop()` returns. -/
def popped (s : State) : Word := s.read16 s.regs.sp

/-- The state after `Pop()`: SP goes up by 2. -/
def afterPop (s : State) : State := s.setSp (s.regs.sp + 2)

end State

/-! ## The platform's inputs -/

/-- The answer of a line source in state `s`; `freeAnswer` is the free value a `free` source gives. -/
def LineSource.holds (src : LineSource) (s : State) (freeAnswer : Bool) : Bool :=
  match src with
  | .never => false
  | .always => true
  | .frame period width => decide (s.t % period < width)
  | .window lo hi => decide (lo ≤ s.t) && decide (s.t < hi)
  | .schedule answers => answers.headD false
  | .predicate e => e.eval s.input != 0
  | .free => freeAnswer

/-- A line source after it has been asked once. -/
def LineSource.asked (src : LineSource) : LineSource :=
  match src with
  | .schedule answers => .schedule answers.tail
  | .never => .never
  | .always => .always
  | .frame period width => .frame period width
  | .window lo hi => .window lo hi
  | .predicate e => .predicate e
  | .free => .free

namespace State

/-- NMI_REQUEST at this boundary, a predicate on the state there (R8, R511). -/
def nmiRequest (s : State) : Bool := s.env.nmi.holds s (Config.freeNmi s)

/-- INT_REQUEST at this boundary, a predicate on the state there (R8, R510). -/
def intRequest (s : State) : Bool := s.env.int.holds s (Config.freeInt s)

/-- The platform's lines after this boundary's samples: one answer each, whether or not it was used. -/
def nextBoundary (s : State) : State :=
  { s with env := { s.env with nmi := s.env.nmi.asked, int := s.env.int.asked, boundary := s.env.boundary + 1 } }

/-! ## The Tracer (R176) -/

/-- One Tracer call of the running step: a `stop` answer is kept for the boundary after it. In the tape-loading environment
the Tracer's policy is rule R477 and its calls answer `continue` (log 26). -/
def tracerCall (s : State) (call : Nat) : State :=
  match s.tape with
  | some _ => s
  | none =>
    { s with
      env := { s.env with tracer := s.env.tracer.asked }
      trace := { s.trace with
        stopPending := s.trace.stopPending || s.env.tracer.holds s (Config.freeStop s.env.boundary call) } }

/-! ## Ports (R90 to R92, R380) -/

/-- The byte a free port answers at T0. -/
def freePort (s : State) (port : Word) : Byte := Config.freePortByte s.env.boundary s.t port

/-- The byte the platform answers outside the tape-loading environment (R91). -/
def platformByte (s : State) (port : Word) : Byte :=
  match s.env.ports with
  | .constant v => v
  | .answers (v :: _) => v
  | .answers [] => s.freePort port
  | .free => s.freePort port

/-- The byte `PORT_READ` answers in the tape-loading environment: a function of (port, T) (R8, R425). -/
def tapePortByte (s : State) (tape : Tape) (port : Word) : Byte :=
  match s.params.portRead with
  | .ula => tape.portAnswer s.params.tstatesPerMs port s.t
  | .function e => BitVec.ofNat 8 (e.eval (fun v => match v with
    | .port => port.toNat
    | .t => s.t))
  | .free => Config.freePortRead port s.t
  | .platform => s.platformByte port

/-- The byte `on_port_read` answers for `port` at T0 = T (R91; `PORT_READ` in the tape-loading environment, R476). -/
def portByte (s : State) (port : Word) : Byte :=
  match s.tape with
  | some tape => s.tapePortByte tape port
  | none => s.platformByte port

/-- The platform answers this port read, not `PORT_READ`. -/
def platformAnswers (s : State) : Bool := s.tape.isNone || s.params.portRead == .platform

/-- The platform's port answers after one read: a list gives its next answer, unless `PORT_READ` answered. -/
def portsAsked (s : State) : PortSource :=
  match s.env.ports with
  | .answers l => .answers (if s.platformAnswers then l.tail else l)
  | .constant v => .constant v
  | .free => .free

/-- The state after `PortRead(p)`: the platform's inputs move on, no other core state changes (R91). -/
def afterPortRead (s : State) : State :=
  ({ s with env := { s.env with ports := s.portsAsked } } : State).tracerCall 0

/-- The border the Tracer has recorded after a write of `v` to `port` (R92): in the tape-loading environment, a write to a
port with `p[0] = 0` records `v[2:0]`. -/
def borderAfter (s : State) (port : Word) (v : Byte) : Option (BitVec 3) :=
  if s.tape.isSome && !port.getLsbD 0 then some (v.extractLsb' 0 3) else s.trace.border

/-- `PortWrite(p, v)`: the write is handed to the Tracer with T0 (R92), with "no further interpreter-side effect". -/
def portWrite (s : State) (port : Word) (v : Byte) : State :=
  ({ s with trace := { s.trace with
      portWrites := { port := port, value := v, t0 := s.t } :: s.trace.portWrites
      border := s.borderAfter port v } } : State).tracerCall 0

/-! ## Interrupt entry and return (R512, R515, R351) -/

/-- "if HALTED = 1: PC <- trunc16(PC + 1) ; HALTED <- 0": the return address is past the HALT (R512, R515). -/
def leaveHalt (s : State) : State := if s.halted then { s with pc := s.pc + 1, halted := false } else s

/-- The shared part of both acceptances (R512, R515): leave a halt, `Rinc(1)`, `Push(PC)`, PC and MEMPTR at the handler's
address, INT_BLOCKED none, T on by the cost. The address is computed after the push. There is no instruction record (R175). -/
def enterHandler (s : State) (target : State → Word) (cost : Nat) : State :=
  let s1 := s.leaveHalt
  let s2 := (s1.rInc 1).push s1.pc
  { s2 with
    pc := target s2, memptr := target s2, intBlocked := .none, t := s2.t + cost, trace := { s2.trace with record := none } }

/-- The maskable acceptance after the check of E2 (R512): both flip-flops are cleared, and IM selects the handler and the
cost. -/
def enterInt (s : State) (bus : Byte) : State :=
  let s1 := { s with iff1 := false, iff2 := false }
  match s.im with
  | .im0 => s1.enterHandler (fun _ => (bus &&& 0x38).setWidth 16) 13
  | .im1 => s1.enterHandler (fun _ => 0x0038) 13
  | .im2 => s1.enterHandler (fun s2 => s2.read16 (wordOf s2.i bus)) 19

/-- The non-maskable acceptance (R515): IFF1 is cleared and IFF2 keeps its value. -/
def enterNmi (s : State) : State := ({ s with iff1 := false } : State).enterHandler (fun _ => 0x0066) 11

/-- The return of RETI and RETN (R351, R352): `PC <- Pop(); IFF1 <- IFF2`, MEMPTR the new PC. -/
def returnFromHandler (s : State) : State :=
  { s.afterPop with pc := s.popped, memptr := s.popped, iff1 := s.iff2 }

end State

/-- The maskable-interrupt acceptance step (R512). -/
def acceptInt (s : State) : Result :=
  let bus := s.params.intBusByte
  if s.im = .im0 ∧ (bus &&& 0xC7) ≠ 0xC7 then .fault (.im0BusByte bus s.pc) else .next (s.enterInt bus)

/-- The end of a meaning: `T <- T + cost`, once, at the end of the step (R174). -/
def finish (cost : Nat) (s : State) : Result := .next (s.addT cost)

end Sys2Proof.Machine
end

