-- ==== Sys2Proof/Machine/Operands.lean ====
section
/-! DEFINITION. The operand forms (R122 to R131, R247) and the register identifiers written (R53): every read and write
of a register by name goes through this file and the first part of Ops.lean. -/

namespace Sys2Proof.Machine

/-! ## The register file as pairs (R31) -/

namespace Regs

def setAf (r : Regs) (v : Word) : Regs := { r with a := hiOf v, f := loOf v }
def setBc (r : Regs) (v : Word) : Regs := { r with b := hiOf v, c := loOf v }
def setDe (r : Regs) (v : Word) : Regs := { r with d := hiOf v, e := loOf v }
def setHl (r : Regs) (v : Word) : Regs := { r with h := hiOf v, l := loOf v }

/-- `reg8(c)` read (R247). -/
def get8 (r : Regs) : Reg8 → Byte
  | .b => r.b
  | .c => r.c
  | .d => r.d
  | .e => r.e
  | .h => r.h
  | .l => r.l
  | .a => r.a

/-- `reg8(c) <- v` (R247). -/
def set8 (r : Regs) (n : Reg8) (v : Byte) : Regs :=
  match n with
  | .b => { r with b := v }
  | .c => { r with c := v }
  | .d => { r with d := v }
  | .e => { r with e := v }
  | .h => { r with h := v }
  | .l => { r with l := v }
  | .a => { r with a := v }

/-- XY: the index register a DD or FD selects (R128). -/
def getIdx (r : Regs) : Idx → Word
  | .ix => r.ix
  | .iy => r.iy

/-- `XY <- v`. -/
def setIdx (r : Regs) (i : Idx) (v : Word) : Regs :=
  match i with
  | .ix => { r with ix := v }
  | .iy => { r with iy := v }

/-- XYh or XYl read (R33). -/
def getHalf (r : Regs) (i : Idx) : Half → Byte
  | .hi => hiOf (r.getIdx i)
  | .lo => loOf (r.getIdx i)

/-- XYh or XYl written: the whole register changes at once (R33). -/
def setHalf (r : Regs) (i : Idx) (h : Half) (v : Byte) : Regs :=
  match h with
  | .hi => r.setIdx i (wordOf v (loOf (r.getIdx i)))
  | .lo => r.setIdx i (wordOf (hiOf (r.getIdx i)) v)

/-- `reg8x(c)` read under DD or FD (R247). -/
def getX (r : Regs) (i : Idx) : RegX → Byte
  | .b => r.b
  | .c => r.c
  | .d => r.d
  | .e => r.e
  | .xh => r.getHalf i .hi
  | .xl => r.getHalf i .lo
  | .a => r.a

/-- `reg8x(c) <- v` under DD or FD (R247). -/
def setX (r : Regs) (i : Idx) (n : RegX) (v : Byte) : Regs :=
  match n with
  | .b => { r with b := v }
  | .c => { r with c := v }
  | .d => { r with d := v }
  | .e => { r with e := v }
  | .xh => r.setHalf i .hi v
  | .xl => r.setHalf i .lo v
  | .a => { r with a := v }

/-- `rp(p)` read (R247). -/
def getPair (r : Regs) : Pair → Word
  | .bc => r.bc
  | .de => r.de
  | .hl => r.hl
  | .sp => r.sp

/-- `rp(p) <- v` (R247). -/
def setPair (r : Regs) (p : Pair) (v : Word) : Regs :=
  match p with
  | .bc => r.setBc v
  | .de => r.setDe v
  | .hl => r.setHl v
  | .sp => { r with sp := v }

/-- `rp2(p)` read (R247). -/
def getPairQ (r : Regs) : PairQ → Word
  | .bc => r.bc
  | .de => r.de
  | .hl => r.hl
  | .af => r.af

/-- `rp2(p) <- v` (R247). -/
def setPairQ (r : Regs) (p : PairQ) (v : Word) : Regs :=
  match p with
  | .bc => r.setBc v
  | .de => r.setDe v
  | .hl => r.setHl v
  | .af => r.setAf v

/-- `rp(p)` read under DD or FD (R275). -/
def getPairX (r : Regs) (i : Idx) : PairX → Word
  | .bc => r.bc
  | .de => r.de
  | .xy => r.getIdx i
  | .sp => r.sp

end Regs

namespace State

/-- HL of the running state. -/
def hl (s : State) : Word := s.regs.hl

/-- BC of the running state. -/
def bc (s : State) : Word := s.regs.bc

/-- DE of the running state. -/
def de (s : State) : Word := s.regs.de

def setReg8 (s : State) (n : Reg8) (v : Byte) : State := { s with regs := s.regs.set8 n v }
def setIdx (s : State) (i : Idx) (v : Word) : State := { s with regs := s.regs.setIdx i v }
def setHalf (s : State) (i : Idx) (h : Half) (v : Byte) : State := { s with regs := s.regs.setHalf i h v }
def setX (s : State) (i : Idx) (n : RegX) (v : Byte) : State := { s with regs := s.regs.setX i n v }
def setPair (s : State) (p : Pair) (v : Word) : State := { s with regs := s.regs.setPair p v }
def setPairQ (s : State) (p : PairQ) (v : Word) : State := { s with regs := s.regs.setPairQ p v }
def setBc (s : State) (v : Word) : State := { s with regs := s.regs.setBc v }
def setDe (s : State) (v : Word) : State := { s with regs := s.regs.setDe v }
def setHl (s : State) (v : Word) : State := { s with regs := s.regs.setHl v }

/-- `EA = trunc16(XY + sext_8(d))` (R129), from the XY of the fetch. -/
def ea (s : State) (i : Idx) (d : Byte) : Word := s.regs.getIdx i + d.signExtend 16

/-- The address of byte 0 of an instruction of `len` bytes, in the state after its fetch (R14: PC already points past it). -/
def pc0 (s : State) (len : Nat) : Word := s.pc - BitVec.ofNat 16 len

/-- The target of JR, JR cc and DJNZ (R131): `trunc16(PC0 + 2 + sext_8(e))`, with PC already at PC0 + 2. -/
def relTarget (s : State) (e : Byte) : Word := s.pc + e.signExtend 16

end State

/-- A condition on F (R49). -/
def condHolds (cc : Cond) (f : Byte) : Bool :=
  match cc with
  | .nz => !flagZ f
  | .z => flagZ f
  | .nc => !flagC f
  | .c => flagC f
  | .po => !flagPV f
  | .pe => flagPV f
  | .p => !flagS f
  | .m => flagS f

/-! ## Register identifiers (R53) -/

namespace State

/-- The 8-bit register of an identifier, written (R53). -/
def setByte (s : State) (id : ByteId) (v : Byte) : State :=
  match id with
  | .a => { s with regs := { s.regs with a := v } }
  | .f => { s with regs := { s.regs with f := v } }
  | .b => { s with regs := { s.regs with b := v } }
  | .c => { s with regs := { s.regs with c := v } }
  | .d => { s with regs := { s.regs with d := v } }
  | .e => { s with regs := { s.regs with e := v } }
  | .h => { s with regs := { s.regs with h := v } }
  | .l => { s with regs := { s.regs with l := v } }
  | .a' => { s with shadow := { s.shadow with a := v } }
  | .f' => { s with shadow := { s.shadow with f := v } }
  | .b' => { s with shadow := { s.shadow with b := v } }
  | .c' => { s with shadow := { s.shadow with c := v } }
  | .d' => { s with shadow := { s.shadow with d := v } }
  | .e' => { s with shadow := { s.shadow with e := v } }
  | .h' => { s with shadow := { s.shadow with h := v } }
  | .l' => { s with shadow := { s.shadow with l := v } }
  | .ixh => s.setHalf .ix .hi v
  | .ixl => s.setHalf .ix .lo v
  | .iyh => s.setHalf .iy .hi v
  | .iyl => s.setHalf .iy .lo v
  | .i => { s with i := v }
  | .r => { s with r := v }

/-- The 16-bit register or pair of an identifier, written: a pair's halves change at once (R31). -/
def setWord (s : State) (id : WordId) (v : Word) : State :=
  match id with
  | .sp => s.setSp v
  | .pc => s.setPc v
  | .af => { s with regs := s.regs.setAf v }
  | .bc => s.setBc v
  | .de => s.setDe v
  | .hl => s.setHl v
  | .af' => { s with shadow := { s.shadow with a := hiOf v, f := loOf v } }
  | .bc' => { s with shadow := { s.shadow with b := hiOf v, c := loOf v } }
  | .de' => { s with shadow := { s.shadow with d := hiOf v, e := loOf v } }
  | .hl' => { s with shadow := { s.shadow with h := hiOf v, l := loOf v } }
  | .ix => s.setIdx .ix v
  | .iy => s.setIdx .iy v

end State

end Sys2Proof.Machine
end

