-- ==== Sys2Proof/Machine/Alu.lean ====
section
/-! DEFINITION. The arithmetic and logic instructions (42_arith_logic.md, R250 to R279). -/

namespace Sys2Proof.Machine

/-! ## The five operand forms of R250 -/

/-- A and F after operation `op` with operand `v` (R253 to R260). -/
def aluStep (op : AluOp) (v : Byte) (s : State) : State := s.setAF (alu op s.regs.a v s.regs.f)

/-- Form r: 4 T, MEMPTR unchanged. -/
def aluReg (op : AluOp) (r : Reg8) (s : State) : Result := finish 4 (aluStep op (s.regs.get8 r) s)

/-- Form (HL): 7 T, MEMPTR unchanged. -/
def aluMem (op : AluOp) (s : State) : Result := finish 7 (aluStep op (s.read s.hl) s)

/-- Form n: 7 T, MEMPTR unchanged. -/
def aluImm (op : AluOp) (n : Byte) (s : State) : Result := finish 7 (aluStep op n s)

/-- Form XYh / XYl: 8 T, MEMPTR unchanged. -/
def aluHalf (op : AluOp) (i : Idx) (h : Half) (s : State) : Result := finish 8 (aluStep op (s.regs.getHalf i h) s)

/-- Form (XY+d): 19 T, MEMPTR the address. -/
def aluIdx (op : AluOp) (i : Idx) (d : Byte) (s : State) : Result :=
  finish 19 ((aluStep op (s.read (s.ea i d)) s).setMemptr (s.ea i d))

/-- ADD A,r (R253). -/
def execAddAR (r : Reg8) (s : State) : Result := aluReg .add r s

/-- ADD A,(HL) (R253). -/
def execAddAM (s : State) : Result := aluMem .add s

/-- ADD A,n (R253). -/
def execAddAN (n : Byte) (s : State) : Result := aluImm .add n s

/-- ADD A,IXh/IXl (R253). -/
def execAddAHalf (i : Idx) (h : Half) (s : State) : Result := aluHalf .add i h s

/-- ADD A,(IX+d) (R253). -/
def execAddAX (i : Idx) (d : Byte) (s : State) : Result := aluIdx .add i d s

/-- ADC A,r (R254). -/
def execAdcAR (r : Reg8) (s : State) : Result := aluReg .adc r s

/-- ADC A,(HL) (R254). -/
def execAdcAM (s : State) : Result := aluMem .adc s

/-- ADC A,n (R254). -/
def execAdcAN (n : Byte) (s : State) : Result := aluImm .adc n s

/-- ADC A,IXh/IXl (R254). -/
def execAdcAHalf (i : Idx) (h : Half) (s : State) : Result := aluHalf .adc i h s

/-- ADC A,(IX+d) (R254). -/
def execAdcAX (i : Idx) (d : Byte) (s : State) : Result := aluIdx .adc i d s

/-- SUB r (R255). -/
def execSubR (r : Reg8) (s : State) : Result := aluReg .sub r s

/-- SUB (HL) (R255). -/
def execSubM (s : State) : Result := aluMem .sub s

/-- SUB n (R255). -/
def execSubN (n : Byte) (s : State) : Result := aluImm .sub n s

/-- SUB IXh/IXl (R255). -/
def execSubHalf (i : Idx) (h : Half) (s : State) : Result := aluHalf .sub i h s

/-- SUB (IX+d) (R255). -/
def execSubX (i : Idx) (d : Byte) (s : State) : Result := aluIdx .sub i d s

/-- SBC A,r (R256). -/
def execSbcAR (r : Reg8) (s : State) : Result := aluReg .sbc r s

/-- SBC A,(HL) (R256). -/
def execSbcAM (s : State) : Result := aluMem .sbc s

/-- SBC A,n (R256). -/
def execSbcAN (n : Byte) (s : State) : Result := aluImm .sbc n s

/-- SBC A,IXh/IXl (R256). -/
def execSbcAHalf (i : Idx) (h : Half) (s : State) : Result := aluHalf .sbc i h s

/-- SBC A,(IX+d) (R256). -/
def execSbcAX (i : Idx) (d : Byte) (s : State) : Result := aluIdx .sbc i d s

/-- AND r (R257). -/
def execAndR (r : Reg8) (s : State) : Result := aluReg .and r s

/-- AND (HL) (R257). -/
def execAndM (s : State) : Result := aluMem .and s

/-- AND n (R257). -/
def execAndN (n : Byte) (s : State) : Result := aluImm .and n s

/-- AND IXh/IXl (R257). -/
def execAndHalf (i : Idx) (h : Half) (s : State) : Result := aluHalf .and i h s

/-- AND (IX+d) (R257). -/
def execAndX (i : Idx) (d : Byte) (s : State) : Result := aluIdx .and i d s

/-- XOR r (R259). -/
def execXorR (r : Reg8) (s : State) : Result := aluReg .xor r s

/-- XOR (HL) (R259). -/
def execXorM (s : State) : Result := aluMem .xor s

/-- XOR n (R259). -/
def execXorN (n : Byte) (s : State) : Result := aluImm .xor n s

/-- XOR IXh/IXl (R259). -/
def execXorHalf (i : Idx) (h : Half) (s : State) : Result := aluHalf .xor i h s

/-- XOR (IX+d) (R259). -/
def execXorX (i : Idx) (d : Byte) (s : State) : Result := aluIdx .xor i d s

/-- OR r (R258). -/
def execOrR (r : Reg8) (s : State) : Result := aluReg .or r s

/-- OR (HL) (R258). -/
def execOrM (s : State) : Result := aluMem .or s

/-- OR n (R258). -/
def execOrN (n : Byte) (s : State) : Result := aluImm .or n s

/-- OR IXh/IXl (R258). -/
def execOrHalf (i : Idx) (h : Half) (s : State) : Result := aluHalf .or i h s

/-- OR (IX+d) (R258). -/
def execOrX (i : Idx) (d : Byte) (s : State) : Result := aluIdx .or i d s

/-- CP r (R260). -/
def execCpR (r : Reg8) (s : State) : Result := aluReg .cp r s

/-- CP (HL) (R260). -/
def execCpM (s : State) : Result := aluMem .cp s

/-- CP n (R260). -/
def execCpN (n : Byte) (s : State) : Result := aluImm .cp n s

/-- CP IXh/IXl (R260). -/
def execCpHalf (i : Idx) (h : Half) (s : State) : Result := aluHalf .cp i h s

/-- CP (IX+d) (R260). -/
def execCpX (i : Idx) (d : Byte) (s : State) : Result := aluIdx .cp i d s

/-! ## Increment and decrement -/

/-- INC r (R261). -/
def execIncR (r : Reg8) (s : State) : Result :=
  let res := inc8 (s.regs.get8 r) s.regs.f
  finish 4 ((s.setReg8 r res.1).setF res.2)

/-- INC IXh/IXl (R261). -/
def execIncHalf (i : Idx) (h : Half) (s : State) : Result :=
  let res := inc8 (s.regs.getHalf i h) s.regs.f
  finish 8 ((s.setHalf i h res.1).setF res.2)

/-- INC (HL) (R262). -/
def execIncM (s : State) : Result :=
  let res := inc8 (s.read s.hl) s.regs.f
  finish 11 ((s.write s.hl res.1).setF res.2)

/-- INC (IX+d) (R263). -/
def execIncX (i : Idx) (d : Byte) (s : State) : Result :=
  let res := inc8 (s.read (s.ea i d)) s.regs.f
  finish 23 (((s.write (s.ea i d) res.1).setF res.2).setMemptr (s.ea i d))

/-- DEC r (R264). -/
def execDecR (r : Reg8) (s : State) : Result :=
  let res := dec8 (s.regs.get8 r) s.regs.f
  finish 4 ((s.setReg8 r res.1).setF res.2)

/-- DEC IXh/IXl (R264). -/
def execDecHalf (i : Idx) (h : Half) (s : State) : Result :=
  let res := dec8 (s.regs.getHalf i h) s.regs.f
  finish 8 ((s.setHalf i h res.1).setF res.2)

/-- DEC (HL) (R265). -/
def execDecM (s : State) : Result :=
  let res := dec8 (s.read s.hl) s.regs.f
  finish 11 ((s.write s.hl res.1).setF res.2)

/-- DEC (IX+d) (R266). -/
def execDecX (i : Idx) (d : Byte) (s : State) : Result :=
  let res := dec8 (s.read (s.ea i d)) s.regs.f
  finish 23 (((s.write (s.ea i d) res.1).setF res.2).setMemptr (s.ea i d))

/-! ## General-purpose arithmetic -/

/-- DAA (R267). -/
def execDaa (s : State) : Result := finish 4 (s.setAF (daa s.regs.a s.regs.f))

/-- CPL (R268). -/
def execCpl (s : State) : Result := finish 4 (s.setAF (cpl s.regs.a s.regs.f))

/-- NEG (R269), for every y: `A <- sub8(0, A, 0)`. -/
def execNeg (_ : BitVec 3) (s : State) : Result := finish 8 (s.setAF (sub8 0 s.regs.a false))

/-- CCF (R270). -/
def execCcf (s : State) : Result := finish 4 (s.setF (ccfF (scfSource s.params.f53ScfCcf s.regs.a) s.regs.f))

/-- SCF (R271). -/
def execScf (s : State) : Result := finish 4 (s.setF (scfF (scfSource s.params.f53ScfCcf s.regs.a) s.regs.f))

/-! ## 16-bit arithmetic -/

/-- ADD HL,ss (R272). -/
def execAddHlSs (ss : Pair) (s : State) : Result :=
  let res := add16 s.hl (s.regs.getPair ss) s.regs.f
  finish 11 (((s.setHl res.1).setF res.2).setMemptr (s.hl + 1))

/-- ADC HL,ss (R273). -/
def execAdcHlSs (ss : Pair) (s : State) : Result :=
  let res := adc16 s.hl (s.regs.getPair ss) s.regs.f
  finish 15 (((s.setHl res.1).setF res.2).setMemptr (s.hl + 1))

/-- SBC HL,ss (R274). -/
def execSbcHlSs (ss : Pair) (s : State) : Result :=
  let res := sbc16 s.hl (s.regs.getPair ss) s.regs.f
  finish 15 (((s.setHl res.1).setF res.2).setMemptr (s.hl + 1))

/-- ADD IX,pp (R275). -/
def execAddIxPp (i : Idx) (pp : PairX) (s : State) : Result :=
  let res := add16 (s.regs.getIdx i) (s.regs.getPairX i pp) s.regs.f
  finish 15 (((s.setIdx i res.1).setF res.2).setMemptr (s.regs.getIdx i + 1))

/-- INC ss (R276). -/
def execIncSs (ss : Pair) (s : State) : Result := finish 6 (s.setPair ss (s.regs.getPair ss + 1))

/-- INC IX (R277). -/
def execIncIx (i : Idx) (s : State) : Result := finish 10 (s.setIdx i (s.regs.getIdx i + 1))

/-- DEC ss (R278). -/
def execDecSs (ss : Pair) (s : State) : Result := finish 6 (s.setPair ss (s.regs.getPair ss - 1))

/-- DEC IX (R279). -/
def execDecIx (i : Idx) (s : State) : Result := finish 10 (s.setIdx i (s.regs.getIdx i - 1))

end Sys2Proof.Machine
end

