-- ==== Sys2Proof/Machine/Block.lean ====
section
/-! DEFINITION. The block transfer and search instructions (41_load_exchange.md, R239 to R246), and the repeat tail they share
with the block input and output instructions (R240, R386). -/

namespace Sys2Proof.Machine

/-- The repeat tail (R240, R244, R386): `again` sends PC back to PC0 and MEMPTR to PC0 + 1 and costs 21; otherwise the cost
is 16. The instruction is two bytes long. -/
def repeatTail (again : Bool) (s : State) : Result :=
  if again then finish 21 ((s.setPc (s.pc0 2)).setMemptr (s.pc0 2 + 1)) else finish 16 s

/-- One transfer (R239, R241): the byte at HL to DE; HL and DE go by `dir`, BC down by 1; F. -/
def blockLd (dir : Word) (s : State) : State :=
  let v := s.read s.hl
  let bc := s.bc - 1
  ((((s.write s.de v).setHl (s.hl + dir)).setDe (s.de + dir)).setBc bc).setF (blockLdF v s.regs.a s.regs.f (bc != 0))

/-- One comparison (R243, R245): A with the byte at HL; HL goes by `dir`, MEMPTR too, BC down by 1; F. -/
def blockCp (dir : Word) (s : State) : State :=
  let v := s.read s.hl
  let bc := s.bc - 1
  (((s.setHl (s.hl + dir)).setBc bc).setF (blockCpF v s.regs.a s.regs.f (bc != 0))).setMemptr (s.memptr + dir)

/-- LDI (R239). -/
def execLdi (s : State) : Result := finish 16 (blockLd 1 s)

/-- LDIR, one iteration (R240): it repeats while BC is not 0. -/
def execLdir (s : State) : Result := repeatTail ((blockLd 1 s).bc != 0) (blockLd 1 s)

/-- LDD (R241). -/
def execLdd (s : State) : Result := finish 16 (blockLd (-1) s)

/-- LDDR, one iteration (R242). -/
def execLddr (s : State) : Result := repeatTail ((blockLd (-1) s).bc != 0) (blockLd (-1) s)

/-- CPI (R243). -/
def execCpi (s : State) : Result := finish 16 (blockCp 1 s)

/-- "BC != 0 and r != 0" (R244), of the state after one comparison: Z is `r = 0`. -/
def searchOn (s : State) : Bool := s.bc != 0 && !flagZ s.regs.f

/-- CPIR, one iteration (R244). -/
def execCpir (s : State) : Result := repeatTail (searchOn (blockCp 1 s)) (blockCp 1 s)

/-- CPD (R245). -/
def execCpd (s : State) : Result := finish 16 (blockCp (-1) s)

/-- CPDR, one iteration (R246). -/
def execCpdr (s : State) : Result := repeatTail (searchOn (blockCp (-1) s)) (blockCp (-1) s)

end Sys2Proof.Machine
end

