-- ==== Sys2Proof/Machine/Control.lean ====
section
/-! DEFINITION. Control transfer, CPU control and prefixes without an instruction (44_control.md, R340 to R362). -/

namespace Sys2Proof.Machine

/-! ## Jumps -/

/-- PC and MEMPTR at one address. -/
def State.jump (s : State) (target : Word) : State := (s.setPc target).setMemptr target

/-- JP nn (R340). -/
def execJpNn (nn : Word) (s : State) : Result := finish 10 (s.jump nn)

/-- JP cc,nn (R341): MEMPTR is nn whether or not the jump is taken, and the cost is 10 either way. -/
def execJpCcNn (cc : Cond) (nn : Word) (s : State) : Result :=
  if condHolds cc s.regs.f then finish 10 (s.jump nn) else finish 10 (s.setMemptr nn)

/-- JR e (R342). -/
def execJr (e : Byte) (s : State) : Result := finish 12 (s.jump (s.relTarget e))

/-- JR cc,e (R343). -/
def execJrCc (cc : Cond) (e : Byte) (s : State) : Result :=
  if condHolds cc s.regs.f then finish 12 (s.jump (s.relTarget e)) else finish 7 s

/-- JP (HL) (R344). -/
def execJpHl (s : State) : Result := finish 4 (s.setPc s.hl)

/-- JP (IX) (R345). -/
def execJpIx (i : Idx) (s : State) : Result := finish 8 (s.setPc (s.regs.getIdx i))

/-- DJNZ e (R346). -/
def execDjnz (e : Byte) (s : State) : Result :=
  let s1 := s.setReg8 .b (s.regs.b - 1)
  if s.regs.b - 1 = 0 then finish 8 s1 else finish 13 (s1.jump (s.relTarget e))

/-! ## Calls, returns and restarts -/

/-- CALL nn (R347): the PC pushed is past the instruction. -/
def execCallNn (nn : Word) (s : State) : Result := finish 17 ((s.push s.pc).jump nn)

/-- CALL cc,nn (R348): MEMPTR is nn, taken or not. -/
def execCallCcNn (cc : Cond) (nn : Word) (s : State) : Result :=
  if condHolds cc s.regs.f then finish 17 ((s.push s.pc).jump nn) else finish 10 (s.setMemptr nn)

/-- RET (R349). -/
def execRet (s : State) : Result := finish 10 (s.afterPop.jump s.popped)

/-- RET cc (R350). -/
def execRetCc (cc : Cond) (s : State) : Result :=
  if condHolds cc s.regs.f then finish 11 (s.afterPop.jump s.popped) else finish 5 s

/-- RETI (R351). -/
def execReti (s : State) : Result := finish 14 s.returnFromHandler

/-- RETN (R352), for every y but 1. -/
def execRetn (_ : BitVec 3) (s : State) : Result := finish 14 s.returnFromHandler

/-- RST p (R353): `Push(PC); PC <- y*8`. -/
def execRst (p : BitVec 3) (s : State) : Result := finish 11 ((s.push s.pc).jump (BitVec.ofNat 16 (p.toNat * 8)))

/-! ## CPU control -/

/-- NOP (R354). -/
def execNop (s : State) : Result := finish 4 s

/-- HALT (R355): `PC <- PC0; HALTED <- 1`. -/
def execHalt (s : State) : Result := finish 4 { s with pc := s.pc0 1, halted := true }

/-- DI (R356). -/
def execDi (s : State) : Result := finish 4 { s with iff1 := false, iff2 := false }

/-- EI (R357). -/
def execEi (s : State) : Result := finish 4 { s with iff1 := true, iff2 := true, intBlocked := .afterEi }

/-- IM 0 (R358). -/
def execIm0 (_ : BitVec 3) (s : State) : Result := finish 8 { s with im := .im0 }

/-- IM 1 (R359). -/
def execIm1 (_ : BitVec 3) (s : State) : Result := finish 8 { s with im := .im1 }

/-- IM 2 (R360). -/
def execIm2 (_ : BitVec 3) (s : State) : Result := finish 8 { s with im := .im2 }

/-! ## Prefixes without an instruction -/

/-- An ignored DD/FD prefix (R361): INT_BLOCKED becomes after_prefix; the next byte is not consumed. -/
def execIgnoredPrefix (_ : Idx) (_ : Byte) (s : State) : Result := finish 4 { s with intBlocked := .afterPrefix }

/-- An undefined ED opcode (R362): a no-op of 8 T, or fault E1 under `ED_UNDEFINED = fault`. -/
def edUndefined (op : Byte) (s : State) : Result :=
  match s.params.edUndefined with
  | .nop => finish 8 s
  | .fault => .fault (.undefinedOpcode (s.pc0 2) op)

/-- The undefined ED row `01xxx111` (R362). -/
def execNopEd1 (y : BitVec 3) (s : State) : Result := edUndefined (opByte 1 y.toNat 7) s

/-- The undefined ED row `00xxxxxx` (R362). -/
def execNopEd0 (x : BitVec 6) (s : State) : Result := edUndefined (BitVec.ofNat 8 x.toNat) s

/-- The undefined ED row `11xxxxxx` (R362). -/
def execNopEd3 (x : BitVec 6) (s : State) : Result := edUndefined (BitVec.ofNat 8 (192 + x.toNat)) s

/-- The undefined ED row `10yyyzzz` (R362). -/
def execNopEd2 (y z : BitVec 3) (s : State) : Result := edUndefined (opByte 2 y.toNat z.toNat) s

end Sys2Proof.Machine
end

