-- ==== Sys2Proof/Machine/Exchange.lean ====
section
/-! DEFINITION. The exchanges (41_load_exchange.md, R234 to R238). -/

namespace Sys2Proof.Machine

/-- EX DE,HL (R234). -/
def execExDeHl (s : State) : Result :=
  finish 4 { s with regs := { s.regs with d := s.regs.h, e := s.regs.l, h := s.regs.d, l := s.regs.e } }

/-- EX AF,AF' (R235). -/
def execExAfAf (s : State) : Result :=
  finish 4 { s with
    regs := { s.regs with a := s.shadow.a, f := s.shadow.f }
    shadow := { s.shadow with a := s.regs.a, f := s.regs.f } }

/-- EXX (R236). -/
def execExx (s : State) : Result :=
  finish 4 { s with
    regs := { s.regs with
      b := s.shadow.b, c := s.shadow.c, d := s.shadow.d, e := s.shadow.e, h := s.shadow.h, l := s.shadow.l }
    shadow := { s.shadow with
      b := s.regs.b, c := s.regs.c, d := s.regs.d, e := s.regs.e, h := s.regs.h, l := s.regs.l } }

/-- EX (SP),HL (R237). -/
def execExSpHl (s : State) : Result :=
  finish 19 (((s.write16 s.regs.sp s.hl).setHl s.popped).setMemptr s.popped)

/-- EX (SP),IX (R238). -/
def execExSpIx (i : Idx) (s : State) : Result :=
  finish 23 (((s.write16 s.regs.sp (s.regs.getIdx i)).setIdx i s.popped).setMemptr s.popped)

end Sys2Proof.Machine
end

