-- ==== Sys2Proof/Machine/Load.lean ====
section
/-! DEFINITION. The loads and the stack instructions (41_load_exchange.md, R200 to R233). Each meaning is the `execute(op)` of
R171 on the state after the fetch, with its T cost. -/

namespace Sys2Proof.Machine

/-! ## 8-bit loads -/

/-- LD r,r' (R200). -/
def execLdRR (r r2 : Reg8) (s : State) : Result := finish 4 (s.setReg8 r (s.regs.get8 r2))

/-- LD r,n (R201). -/
def execLdRN (r : Reg8) (n : Byte) (s : State) : Result := finish 7 (s.setReg8 r n)

/-- LD r,(HL) (R202). -/
def execLdRM (r : Reg8) (s : State) : Result := finish 7 (s.setReg8 r (s.read s.hl))

/-- LD r,(IX+d) (R203). -/
def execLdRX (i : Idx) (r : Reg8) (d : Byte) (s : State) : Result :=
  finish 19 ((s.setReg8 r (s.read (s.ea i d))).setMemptr (s.ea i d))

/-- LD (HL),r (R204). -/
def execLdMR (r : Reg8) (s : State) : Result := finish 7 (s.write s.hl (s.regs.get8 r))

/-- LD (IX+d),r (R205). -/
def execLdXR (i : Idx) (d : Byte) (r : Reg8) (s : State) : Result :=
  finish 19 ((s.write (s.ea i d) (s.regs.get8 r)).setMemptr (s.ea i d))

/-- LD (HL),n (R206). -/
def execLdMN (n : Byte) (s : State) : Result := finish 10 (s.write s.hl n)

/-- LD (IX+d),n (R207). -/
def execLdXN (i : Idx) (d n : Byte) (s : State) : Result :=
  finish 19 ((s.write (s.ea i d) n).setMemptr (s.ea i d))

/-- LD A,(BC) (R208). -/
def execLdABc (s : State) : Result := finish 7 ((s.setA (s.read s.bc)).setMemptr (s.bc + 1))

/-- LD A,(DE) (R209). -/
def execLdADe (s : State) : Result := finish 7 ((s.setA (s.read s.de)).setMemptr (s.de + 1))

/-- LD A,(nn) (R210). -/
def execLdAMem (nn : Word) (s : State) : Result := finish 13 ((s.setA (s.read nn)).setMemptr (nn + 1))

/-- `A:trunc8(low + 1)`: the MEMPTR of the stores of A (R211, R212, R213, R389). -/
def storeAMemptr (s : State) (low : Byte) : Word := wordOf s.regs.a (low + 1)

/-- LD (BC),A (R211). -/
def execLdBcA (s : State) : Result :=
  finish 7 ((s.write s.bc s.regs.a).setMemptr (storeAMemptr s s.regs.c))

/-- LD (DE),A (R212). -/
def execLdDeA (s : State) : Result :=
  finish 7 ((s.write s.de s.regs.a).setMemptr (storeAMemptr s s.regs.e))

/-- LD (nn),A (R213). -/
def execLdMemA (nn : Word) (s : State) : Result :=
  finish 13 ((s.write nn s.regs.a).setMemptr (storeAMemptr s (loOf nn)))

/-- LD A,I (R214). -/
def execLdAI (s : State) : Result := finish 9 (s.setAF (s.i, ldAIRF s.i s.regs.f s.iff2))

/-- LD A,R (R215): R after the instruction's own two increments, which the fetch has made. -/
def execLdAR (s : State) : Result := finish 9 (s.setAF (s.r, ldAIRF s.r s.regs.f s.iff2))

/-- LD I,A (R216). -/
def execLdIA (s : State) : Result := finish 9 { s with i := s.regs.a }

/-- LD R,A (R217): all 8 bits, after the fetch's increments. -/
def execLdRA (s : State) : Result := finish 9 { s with r := s.regs.a }

/-- LD r,r' with index halves (R218). -/
def execLdRxRy (i : Idx) (r r2 : RegX) (s : State) : Result := finish 8 (s.setX i r (s.regs.getX i r2))

/-- LD IXh/IXl,n (R219). -/
def execLdHalfN (i : Idx) (h : Half) (n : Byte) (s : State) : Result := finish 11 (s.setHalf i h n)

/-! ## 16-bit loads -/

/-- LD dd,nn (R220). -/
def execLdDdNn (dd : Pair) (nn : Word) (s : State) : Result := finish 10 (s.setPair dd nn)

/-- LD IX,nn (R221). -/
def execLdIxNn (i : Idx) (nn : Word) (s : State) : Result := finish 14 (s.setIdx i nn)

/-- LD HL,(nn) (R222). -/
def execLdHlMem (nn : Word) (s : State) : Result := finish 16 ((s.setHl (s.read16 nn)).setMemptr (nn + 1))

/-- LD dd,(nn) (R223). -/
def execLdDdMem (dd : Pair) (nn : Word) (s : State) : Result :=
  finish 20 ((s.setPair dd (s.read16 nn)).setMemptr (nn + 1))

/-- LD IX,(nn) (R224). -/
def execLdIxMem (i : Idx) (nn : Word) (s : State) : Result :=
  finish 20 ((s.setIdx i (s.read16 nn)).setMemptr (nn + 1))

/-- LD (nn),HL (R225). -/
def execLdMemHl (nn : Word) (s : State) : Result := finish 16 ((s.write16 nn s.hl).setMemptr (nn + 1))

/-- LD (nn),dd (R226). -/
def execLdMemDd (dd : Pair) (nn : Word) (s : State) : Result :=
  finish 20 ((s.write16 nn (s.regs.getPair dd)).setMemptr (nn + 1))

/-- LD (nn),IX (R227). -/
def execLdMemIx (i : Idx) (nn : Word) (s : State) : Result :=
  finish 20 ((s.write16 nn (s.regs.getIdx i)).setMemptr (nn + 1))

/-- LD SP,HL (R228). -/
def execLdSpHl (s : State) : Result := finish 6 (s.setSp s.hl)

/-- LD SP,IX (R229). -/
def execLdSpIx (i : Idx) (s : State) : Result := finish 10 (s.setSp (s.regs.getIdx i))

/-! ## Stack -/

/-- PUSH qq (R230). -/
def execPushQq (qq : PairQ) (s : State) : Result := finish 11 (s.push (s.regs.getPairQ qq))

/-- PUSH IX (R231). -/
def execPushIx (i : Idx) (s : State) : Result := finish 15 (s.push (s.regs.getIdx i))

/-- POP qq (R232). -/
def execPopQq (qq : PairQ) (s : State) : Result := finish 10 (s.afterPop.setPairQ qq s.popped)

/-- POP IX (R233). -/
def execPopIx (i : Idx) (s : State) : Result := finish 14 (s.afterPop.setIdx i s.popped)

end Sys2Proof.Machine
end

