-- ==== Sys2Proof/Machine/InOut.lean ====
section
/-! DEFINITION. The input and output instructions (45_io.md, R380 to R395). Each makes one port access. -/

namespace Sys2Proof.Machine

/-! ## Input -/

/-- IN A,(n) (R382): port A:n, MEMPTR the port plus 1. -/
def execInAN (n : Byte) (s : State) : Result :=
  let p := wordOf s.regs.a n
  finish 11 ((s.afterPortRead.setA (s.portByte p)).setMemptr (p + 1))

/-- IN r,(C) (R383): port BC, F from the byte. MEMPTR is BC plus 1 after `reg8(y) <- v`, as the pseudocode orders them, so for
IN B,(C) and IN C,(C) it is the new BC plus 1; vector V164 has the old one, and the rule governs (DEDUCED, log 37). -/
def execInRC (r : Reg8) (s : State) : Result :=
  let v := s.portByte s.bc
  let s1 := (s.afterPortRead.setReg8 r v).setF (inF v s.regs.f)
  finish 12 (s1.setMemptr (s1.bc + 1))

/-- IN F,(C) (R384): the flags only. -/
def execInFC (s : State) : Result :=
  finish 12 ((s.afterPortRead.setF (inF (s.portByte s.bc) s.regs.f)).setMemptr (s.bc + 1))

/-- One input iteration (R385, R387): the byte of port BC goes to HL; MEMPTR is BC moved by `dir`, HL moves by `dir`, B goes
down by 1; k is `v + trunc8(C + dir)`. -/
def blockIn (dir : Word) (cdir : Byte) (s : State) : State :=
  let v := s.portByte s.bc
  let b := s.regs.b - 1
  let k := v.toNat + (s.regs.c + cdir).toNat
  ((((s.afterPortRead.write s.hl v).setReg8 .b b).setHl (s.hl + dir)).setF (ioF v k b)).setMemptr (s.bc + dir)

/-- "B != 0" (R386), of the state after one iteration. -/
def ioOn (s : State) : Bool := s.regs.b != 0

/-- INI (R385). -/
def execIni (s : State) : Result := finish 16 (blockIn 1 1 s)

/-- INIR, one iteration (R386). -/
def execInir (s : State) : Result := repeatTail (ioOn (blockIn 1 1 s)) (blockIn 1 1 s)

/-- IND (R387). -/
def execInd (s : State) : Result := finish 16 (blockIn (-1) (-1) s)

/-- INDR, one iteration (R388). -/
def execIndr (s : State) : Result := repeatTail (ioOn (blockIn (-1) (-1) s)) (blockIn (-1) (-1) s)

/-! ## Which instructions read a port -/

/-- The instruction makes a port read (R382 to R388, R380): one, at its T0. -/
def readsPort (i : Instr) : Bool :=
  match i with
  | .inAN .. | .inRC .. | .inFC .. | .ini .. | .inir .. | .ind .. | .indr .. => true
  | .nop .. | .exAfAf .. | .djnz .. | .jr .. | .jrCc .. | .ldDdNn .. | .addHlSs .. | .ldBcA .. | .ldDeA .. | .ldMemHl ..
  | .ldMemA .. | .ldABc .. | .ldADe .. | .ldHlMem .. | .ldAMem .. | .incSs .. | .decSs .. | .incR .. | .incM .. | .decR ..
  | .decM .. | .ldRN .. | .ldMN .. | .rlca .. | .rrca .. | .rla .. | .rra .. | .daa .. | .cpl .. | .scf .. | .ccf ..
  | .ldRR .. | .ldRM .. | .ldMR .. | .halt .. | .addAR .. | .addAM .. | .addAN .. | .adcAR .. | .adcAM .. | .adcAN ..
  | .subR .. | .subM .. | .subN .. | .sbcAR .. | .sbcAM .. | .sbcAN .. | .andR .. | .andM .. | .andN .. | .xorR .. | .xorM ..
  | .xorN .. | .orR .. | .orM .. | .orN .. | .cpR .. | .cpM .. | .cpN .. | .retCc .. | .popQq .. | .ret .. | .exx ..
  | .jpHl .. | .ldSpHl .. | .jpCcNn .. | .jpNn .. | .outNA .. | .exSpHl .. | .exDeHl .. | .di .. | .ei .. | .callCcNn ..
  | .pushQq .. | .callNn .. | .rst .. | .rlcR .. | .rlcM .. | .rrcR .. | .rrcM .. | .rlR .. | .rlM .. | .rrR .. | .rrM ..
  | .slaR .. | .slaM .. | .sraR .. | .sraM .. | .sllR .. | .sllM .. | .srlR .. | .srlM .. | .bitR .. | .bitM .. | .resR ..
  | .resM .. | .setR .. | .setM .. | .outCR .. | .outC0 .. | .sbcHlSs .. | .adcHlSs .. | .ldMemDd .. | .ldDdMem .. | .neg ..
  | .retn .. | .reti .. | .im0 .. | .im1 .. | .im2 .. | .ldIA .. | .ldRA .. | .ldAI .. | .ldAR .. | .rrd .. | .rld ..
  | .ldi .. | .cpi .. | .outi .. | .ldd .. | .cpd .. | .outd .. | .ldir .. | .cpir .. | .otir .. | .lddr .. | .cpdr ..
  | .otdr .. | .nopEd1 .. | .nopEd0 .. | .nopEd3 .. | .nopEd2 .. | .addIxPp .. | .ldIxNn .. | .ldMemIx .. | .incIx ..
  | .ldIxMem .. | .decIx .. | .incHalf .. | .decHalf .. | .ldHalfN .. | .incX .. | .decX .. | .ldXN .. | .ldRxRy ..
  | .ldRX .. | .ldXR .. | .addAHalf .. | .addAX .. | .adcAHalf .. | .adcAX .. | .subHalf .. | .subX .. | .sbcAHalf ..
  | .sbcAX .. | .andHalf .. | .andX .. | .xorHalf .. | .xorX .. | .orHalf .. | .orX .. | .cpHalf .. | .cpX .. | .popIx ..
  | .exSpIx .. | .pushIx .. | .jpIx .. | .ldSpIx .. | .ignoredPrefix .. | .rlcX .. | .rlcXR .. | .rrcX .. | .rrcXR ..
  | .rlX .. | .rlXR .. | .rrX .. | .rrXR .. | .slaX .. | .slaXR .. | .sraX .. | .sraXR .. | .sllX .. | .sllXR .. | .srlX ..
  | .srlXR .. | .bitX .. | .resX .. | .resXR .. | .setX .. | .setXR .. => false

/-! ## Output -/

/-- OUT (n),A (R389): port A:n, MEMPTR A:trunc8(n + 1). -/
def execOutNA (n : Byte) (s : State) : Result :=
  finish 11 ((s.portWrite (wordOf s.regs.a n) s.regs.a).setMemptr (storeAMemptr s n))

/-- OUT (C),r (R390). -/
def execOutCR (r : Reg8) (s : State) : Result :=
  finish 12 ((s.portWrite s.bc (s.regs.get8 r)).setMemptr (s.bc + 1))

/-- OUT (C),0 (R391): 0x00, the NMOS value. -/
def execOutC0 (s : State) : Result := finish 12 ((s.portWrite s.bc 0x00).setMemptr (s.bc + 1))

/-- One output iteration (R392, R394): B goes down by 1 first, and the byte at HL goes to port BC as it then is; MEMPTR is that
BC moved by `dir`, HL moves by `dir`; k is `v + L` with the L after the move. -/
def blockOut (dir : Word) (s : State) : State :=
  let v := s.read s.hl
  let s1 := s.setReg8 .b (s.regs.b - 1)
  let s2 := ((s1.portWrite s1.bc v).setMemptr (s1.bc + dir)).setHl (s1.hl + dir)
  s2.setF (ioF v (v.toNat + s2.regs.l.toNat) s2.regs.b)

/-- OUTI (R392). -/
def execOuti (s : State) : Result := finish 16 (blockOut 1 s)

/-- OTIR, one iteration (R393). -/
def execOtir (s : State) : Result := repeatTail (ioOn (blockOut 1 s)) (blockOut 1 s)

/-- OUTD (R394). -/
def execOutd (s : State) : Result := finish 16 (blockOut (-1) s)

/-- OTDR, one iteration (R395). -/
def execOtdr (s : State) : Result := repeatTail (ioOn (blockOut (-1) s)) (blockOut (-1) s)

end Sys2Proof.Machine
end

