-- ==== Sys2Proof/Machine/Rotate.lean ====
section
/-! DEFINITION. The rotates, shifts and bit instructions (43_rotate_shift_bit.md, R300 to R323). -/

namespace Sys2Proof.Machine

/-! ## Accumulator rotates -/

/-- RLCA (R300). -/
def execRlca (s : State) : Result := finish 4 (s.setAF (rotA .rlc s.regs.a s.regs.f))

/-- RLA (R301). -/
def execRla (s : State) : Result := finish 4 (s.setAF (rotA .rl s.regs.a s.regs.f))

/-- RRCA (R302). -/
def execRrca (s : State) : Result := finish 4 (s.setAF (rotA .rrc s.regs.a s.regs.f))

/-- RRA (R303). -/
def execRra (s : State) : Result := finish 4 (s.setAF (rotA .rr s.regs.a s.regs.f))

/-! ## The four operand forms of R304 -/

/-- Form r: 8 T. -/
def rotReg (op : RotOp) (r : Reg8) (s : State) : Result :=
  let res := rot op (s.regs.get8 r) s.regs.f
  finish 8 ((s.setReg8 r res.1).setF res.2)

/-- Form (HL): 15 T. -/
def rotMem (op : RotOp) (s : State) : Result :=
  let res := rot op (s.read s.hl) s.regs.f
  finish 15 ((s.write s.hl res.1).setF res.2)

/-- Form (XY+d): 23 T, MEMPTR the address. -/
def rotIdx (op : RotOp) (i : Idx) (d : Byte) (s : State) : Result :=
  let res := rot op (s.read (s.ea i d)) s.regs.f
  finish 23 (((s.write (s.ea i d) res.1).setF res.2).setMemptr (s.ea i d))

/-- Form (XY+d),r: as (XY+d), and the result goes to register r too. -/
def rotIdxReg (op : RotOp) (i : Idx) (d : Byte) (r : Reg8) (s : State) : Result :=
  let res := rot op (s.read (s.ea i d)) s.regs.f
  finish 23 ((((s.write (s.ea i d) res.1).setReg8 r res.1).setF res.2).setMemptr (s.ea i d))

/-- RLC r (R305). -/
def execRlcR (r : Reg8) (s : State) : Result := rotReg .rlc r s

/-- RLC (HL) (R305). -/
def execRlcM (s : State) : Result := rotMem .rlc s

/-- RLC (IX+d) (R305). -/
def execRlcX (i : Idx) (d : Byte) (s : State) : Result := rotIdx .rlc i d s

/-- RLC (IX+d),r (R305). -/
def execRlcXR (i : Idx) (d : Byte) (r : Reg8) (s : State) : Result := rotIdxReg .rlc i d r s

/-- RRC r (R307). -/
def execRrcR (r : Reg8) (s : State) : Result := rotReg .rrc r s

/-- RRC (HL) (R307). -/
def execRrcM (s : State) : Result := rotMem .rrc s

/-- RRC (IX+d) (R307). -/
def execRrcX (i : Idx) (d : Byte) (s : State) : Result := rotIdx .rrc i d s

/-- RRC (IX+d),r (R307). -/
def execRrcXR (i : Idx) (d : Byte) (r : Reg8) (s : State) : Result := rotIdxReg .rrc i d r s

/-- RL r (R306). -/
def execRlR (r : Reg8) (s : State) : Result := rotReg .rl r s

/-- RL (HL) (R306). -/
def execRlM (s : State) : Result := rotMem .rl s

/-- RL (IX+d) (R306). -/
def execRlX (i : Idx) (d : Byte) (s : State) : Result := rotIdx .rl i d s

/-- RL (IX+d),r (R306). -/
def execRlXR (i : Idx) (d : Byte) (r : Reg8) (s : State) : Result := rotIdxReg .rl i d r s

/-- RR r (R308). -/
def execRrR (r : Reg8) (s : State) : Result := rotReg .rr r s

/-- RR (HL) (R308). -/
def execRrM (s : State) : Result := rotMem .rr s

/-- RR (IX+d) (R308). -/
def execRrX (i : Idx) (d : Byte) (s : State) : Result := rotIdx .rr i d s

/-- RR (IX+d),r (R308). -/
def execRrXR (i : Idx) (d : Byte) (r : Reg8) (s : State) : Result := rotIdxReg .rr i d r s

/-- SLA r (R309). -/
def execSlaR (r : Reg8) (s : State) : Result := rotReg .sla r s

/-- SLA (HL) (R309). -/
def execSlaM (s : State) : Result := rotMem .sla s

/-- SLA (IX+d) (R309). -/
def execSlaX (i : Idx) (d : Byte) (s : State) : Result := rotIdx .sla i d s

/-- SLA (IX+d),r (R309). -/
def execSlaXR (i : Idx) (d : Byte) (r : Reg8) (s : State) : Result := rotIdxReg .sla i d r s

/-- SRA r (R310). -/
def execSraR (r : Reg8) (s : State) : Result := rotReg .sra r s

/-- SRA (HL) (R310). -/
def execSraM (s : State) : Result := rotMem .sra s

/-- SRA (IX+d) (R310). -/
def execSraX (i : Idx) (d : Byte) (s : State) : Result := rotIdx .sra i d s

/-- SRA (IX+d),r (R310). -/
def execSraXR (i : Idx) (d : Byte) (r : Reg8) (s : State) : Result := rotIdxReg .sra i d r s

/-- SLL r (R311). -/
def execSllR (r : Reg8) (s : State) : Result := rotReg .sll r s

/-- SLL (HL) (R311). -/
def execSllM (s : State) : Result := rotMem .sll s

/-- SLL (IX+d) (R311). -/
def execSllX (i : Idx) (d : Byte) (s : State) : Result := rotIdx .sll i d s

/-- SLL (IX+d),r (R311). -/
def execSllXR (i : Idx) (d : Byte) (r : Reg8) (s : State) : Result := rotIdxReg .sll i d r s

/-- SRL r (R312). -/
def execSrlR (r : Reg8) (s : State) : Result := rotReg .srl r s

/-- SRL (HL) (R312). -/
def execSrlM (s : State) : Result := rotMem .srl s

/-- SRL (IX+d) (R312). -/
def execSrlX (i : Idx) (d : Byte) (s : State) : Result := rotIdx .srl i d s

/-- SRL (IX+d),r (R312). -/
def execSrlXR (i : Idx) (d : Byte) (r : Reg8) (s : State) : Result := rotIdxReg .srl i d r s

/-! ## Digit rotates -/

/-- RLD (R313): the low nibble of A and the byte at HL turn left by a digit. -/
def execRld (s : State) : Result :=
  let v := s.read s.hl
  let a := (s.regs.a &&& 0xF0) ||| (v >>> 4)
  finish 18 (((s.write s.hl ((v <<< 4) ||| (s.regs.a &&& 0x0F))).setAF (a, inF a s.regs.f)).setMemptr (s.hl + 1))

/-- RRD (R314): the low nibble of A and the byte at HL turn right by a digit. -/
def execRrd (s : State) : Result :=
  let v := s.read s.hl
  let a := (s.regs.a &&& 0xF0) ||| (v &&& 0x0F)
  finish 18 (((s.write s.hl ((s.regs.a <<< 4) ||| (v >>> 4))).setAF (a, inF a s.regs.f)).setMemptr (s.hl + 1))

/-! ## Bit test -/

/-- BIT b,r (R315): F5 and F3 from the register. -/
def execBitR (b : BitVec 3) (r : Reg8) (s : State) : Result :=
  finish 8 (s.setF (bitF b (s.regs.get8 r) (s.regs.get8 r) s.regs.f))

/-- BIT b,(HL) (R316): F5 and F3 from the high byte of MEMPTR. -/
def execBitM (b : BitVec 3) (s : State) : Result :=
  finish 12 (s.setF (bitF b (s.read s.hl) (hiOf s.memptr) s.regs.f))

/-- BIT b,(IX+d) (R317), for every z: F5 and F3 from the high byte of the address. -/
def execBitX (i : Idx) (d : Byte) (b _z : BitVec 3) (s : State) : Result :=
  finish 20 ((s.setF (bitF b (s.read (s.ea i d)) (hiOf (s.ea i d)) s.regs.f)).setMemptr (s.ea i d))

/-! ## Bit set and reset: the forms of R318 to R323, with the change of the byte as an argument -/

/-- Form r: 8 T, no flag. -/
def changeReg (change : Byte → Byte) (r : Reg8) (s : State) : Result :=
  finish 8 (s.setReg8 r (change (s.regs.get8 r)))

/-- Form (HL): 15 T, no flag. -/
def changeMem (change : Byte → Byte) (s : State) : Result := finish 15 (s.write s.hl (change (s.read s.hl)))

/-- Form (XY+d): 23 T, no flag, MEMPTR the address. -/
def changeIdx (change : Byte → Byte) (i : Idx) (d : Byte) (s : State) : Result :=
  finish 23 ((s.write (s.ea i d) (change (s.read (s.ea i d)))).setMemptr (s.ea i d))

/-- Form (XY+d),r: as (XY+d), and the result goes to register r too. -/
def changeIdxReg (change : Byte → Byte) (i : Idx) (d : Byte) (r : Reg8) (s : State) : Result :=
  let res := change (s.read (s.ea i d))
  finish 23 (((s.write (s.ea i d) res).setReg8 r res).setMemptr (s.ea i d))

/-- SET b,r (R318). -/
def execSetR (b : BitVec 3) (r : Reg8) (s : State) : Result := changeReg (setBit b) r s

/-- SET b,(HL) (R319). -/
def execSetM (b : BitVec 3) (s : State) : Result := changeMem (setBit b) s

/-- SET b,(IX+d) (R320). -/
def execSetX (i : Idx) (d : Byte) (b : BitVec 3) (s : State) : Result := changeIdx (setBit b) i d s

/-- SET b,(IX+d),r (R320). -/
def execSetXR (i : Idx) (d : Byte) (b : BitVec 3) (r : Reg8) (s : State) : Result := changeIdxReg (setBit b) i d r s

/-- RES b,r (R321). -/
def execResR (b : BitVec 3) (r : Reg8) (s : State) : Result := changeReg (resBit b) r s

/-- RES b,(HL) (R322). -/
def execResM (b : BitVec 3) (s : State) : Result := changeMem (resBit b) s

/-- RES b,(IX+d) (R323). -/
def execResX (i : Idx) (d : Byte) (b : BitVec 3) (s : State) : Result := changeIdx (resBit b) i d s

/-- RES b,(IX+d),r (R323). -/
def execResXR (i : Idx) (d : Byte) (b : BitVec 3) (r : Reg8) (s : State) : Result := changeIdxReg (resBit b) i d r s

end Sys2Proof.Machine
end

