-- ==== Sys2Proof/Machine/Dispatch.lean ====
section
/-! DEFINITION. exec: one arm per constructor of Instr, each one call of that instruction's meaning. It is the
`execute(op)` line of rule R171 together with the T cost of R174: the state it is given is the one after the fetch
bookkeeping of R173 (PC past the instruction, R advanced), Sys2Proof/Machine/Cycle.lean. -/

namespace Sys2Proof.Machine

def exec (i : Instr) (s : State) : Host.Outcome State Fault Refusal :=
  match i with
  | .nop => Sys2Proof.Machine.execNop s
  | .exAfAf => Sys2Proof.Machine.execExAfAf s
  | .djnz e => Sys2Proof.Machine.execDjnz e s
  | .jr e => Sys2Proof.Machine.execJr e s
  | .jrCc cc e => Sys2Proof.Machine.execJrCc cc e s
  | .ldDdNn dd nn => Sys2Proof.Machine.execLdDdNn dd nn s
  | .addHlSs ss => Sys2Proof.Machine.execAddHlSs ss s
  | .ldBcA => Sys2Proof.Machine.execLdBcA s
  | .ldDeA => Sys2Proof.Machine.execLdDeA s
  | .ldMemHl nn => Sys2Proof.Machine.execLdMemHl nn s
  | .ldMemA nn => Sys2Proof.Machine.execLdMemA nn s
  | .ldABc => Sys2Proof.Machine.execLdABc s
  | .ldADe => Sys2Proof.Machine.execLdADe s
  | .ldHlMem nn => Sys2Proof.Machine.execLdHlMem nn s
  | .ldAMem nn => Sys2Proof.Machine.execLdAMem nn s
  | .incSs ss => Sys2Proof.Machine.execIncSs ss s
  | .decSs ss => Sys2Proof.Machine.execDecSs ss s
  | .incR r => Sys2Proof.Machine.execIncR r s
  | .incM => Sys2Proof.Machine.execIncM s
  | .decR r => Sys2Proof.Machine.execDecR r s
  | .decM => Sys2Proof.Machine.execDecM s
  | .ldRN r n => Sys2Proof.Machine.execLdRN r n s
  | .ldMN n => Sys2Proof.Machine.execLdMN n s
  | .rlca => Sys2Proof.Machine.execRlca s
  | .rrca => Sys2Proof.Machine.execRrca s
  | .rla => Sys2Proof.Machine.execRla s
  | .rra => Sys2Proof.Machine.execRra s
  | .daa => Sys2Proof.Machine.execDaa s
  | .cpl => Sys2Proof.Machine.execCpl s
  | .scf => Sys2Proof.Machine.execScf s
  | .ccf => Sys2Proof.Machine.execCcf s
  | .ldRR r r2 => Sys2Proof.Machine.execLdRR r r2 s
  | .ldRM r => Sys2Proof.Machine.execLdRM r s
  | .ldMR r => Sys2Proof.Machine.execLdMR r s
  | .halt => Sys2Proof.Machine.execHalt s
  | .addAR r => Sys2Proof.Machine.execAddAR r s
  | .addAM => Sys2Proof.Machine.execAddAM s
  | .addAN n => Sys2Proof.Machine.execAddAN n s
  | .adcAR r => Sys2Proof.Machine.execAdcAR r s
  | .adcAM => Sys2Proof.Machine.execAdcAM s
  | .adcAN n => Sys2Proof.Machine.execAdcAN n s
  | .subR r => Sys2Proof.Machine.execSubR r s
  | .subM => Sys2Proof.Machine.execSubM s
  | .subN n => Sys2Proof.Machine.execSubN n s
  | .sbcAR r => Sys2Proof.Machine.execSbcAR r s
  | .sbcAM => Sys2Proof.Machine.execSbcAM s
  | .sbcAN n => Sys2Proof.Machine.execSbcAN n s
  | .andR r => Sys2Proof.Machine.execAndR r s
  | .andM => Sys2Proof.Machine.execAndM s
  | .andN n => Sys2Proof.Machine.execAndN n s
  | .xorR r => Sys2Proof.Machine.execXorR r s
  | .xorM => Sys2Proof.Machine.execXorM s
  | .xorN n => Sys2Proof.Machine.execXorN n s
  | .orR r => Sys2Proof.Machine.execOrR r s
  | .orM => Sys2Proof.Machine.execOrM s
  | .orN n => Sys2Proof.Machine.execOrN n s
  | .cpR r => Sys2Proof.Machine.execCpR r s
  | .cpM => Sys2Proof.Machine.execCpM s
  | .cpN n => Sys2Proof.Machine.execCpN n s
  | .retCc cc => Sys2Proof.Machine.execRetCc cc s
  | .popQq qq => Sys2Proof.Machine.execPopQq qq s
  | .ret => Sys2Proof.Machine.execRet s
  | .exx => Sys2Proof.Machine.execExx s
  | .jpHl => Sys2Proof.Machine.execJpHl s
  | .ldSpHl => Sys2Proof.Machine.execLdSpHl s
  | .jpCcNn cc nn => Sys2Proof.Machine.execJpCcNn cc nn s
  | .jpNn nn => Sys2Proof.Machine.execJpNn nn s
  | .outNA n => Sys2Proof.Machine.execOutNA n s
  | .inAN n => Sys2Proof.Machine.execInAN n s
  | .exSpHl => Sys2Proof.Machine.execExSpHl s
  | .exDeHl => Sys2Proof.Machine.execExDeHl s
  | .di => Sys2Proof.Machine.execDi s
  | .ei => Sys2Proof.Machine.execEi s
  | .callCcNn cc nn => Sys2Proof.Machine.execCallCcNn cc nn s
  | .pushQq qq => Sys2Proof.Machine.execPushQq qq s
  | .callNn nn => Sys2Proof.Machine.execCallNn nn s
  | .rst p => Sys2Proof.Machine.execRst p s
  | .rlcR r => Sys2Proof.Machine.execRlcR r s
  | .rlcM => Sys2Proof.Machine.execRlcM s
  | .rrcR r => Sys2Proof.Machine.execRrcR r s
  | .rrcM => Sys2Proof.Machine.execRrcM s
  | .rlR r => Sys2Proof.Machine.execRlR r s
  | .rlM => Sys2Proof.Machine.execRlM s
  | .rrR r => Sys2Proof.Machine.execRrR r s
  | .rrM => Sys2Proof.Machine.execRrM s
  | .slaR r => Sys2Proof.Machine.execSlaR r s
  | .slaM => Sys2Proof.Machine.execSlaM s
  | .sraR r => Sys2Proof.Machine.execSraR r s
  | .sraM => Sys2Proof.Machine.execSraM s
  | .sllR r => Sys2Proof.Machine.execSllR r s
  | .sllM => Sys2Proof.Machine.execSllM s
  | .srlR r => Sys2Proof.Machine.execSrlR r s
  | .srlM => Sys2Proof.Machine.execSrlM s
  | .bitR b r => Sys2Proof.Machine.execBitR b r s
  | .bitM b => Sys2Proof.Machine.execBitM b s
  | .resR b r => Sys2Proof.Machine.execResR b r s
  | .resM b => Sys2Proof.Machine.execResM b s
  | .setR b r => Sys2Proof.Machine.execSetR b r s
  | .setM b => Sys2Proof.Machine.execSetM b s
  | .inRC r => Sys2Proof.Machine.execInRC r s
  | .inFC => Sys2Proof.Machine.execInFC s
  | .outCR r => Sys2Proof.Machine.execOutCR r s
  | .outC0 => Sys2Proof.Machine.execOutC0 s
  | .sbcHlSs ss => Sys2Proof.Machine.execSbcHlSs ss s
  | .adcHlSs ss => Sys2Proof.Machine.execAdcHlSs ss s
  | .ldMemDd dd nn => Sys2Proof.Machine.execLdMemDd dd nn s
  | .ldDdMem dd nn => Sys2Proof.Machine.execLdDdMem dd nn s
  | .neg y => Sys2Proof.Machine.execNeg y s
  | .retn y => Sys2Proof.Machine.execRetn y s
  | .reti => Sys2Proof.Machine.execReti s
  | .im0 y => Sys2Proof.Machine.execIm0 y s
  | .im1 y => Sys2Proof.Machine.execIm1 y s
  | .im2 y => Sys2Proof.Machine.execIm2 y s
  | .ldIA => Sys2Proof.Machine.execLdIA s
  | .ldRA => Sys2Proof.Machine.execLdRA s
  | .ldAI => Sys2Proof.Machine.execLdAI s
  | .ldAR => Sys2Proof.Machine.execLdAR s
  | .rrd => Sys2Proof.Machine.execRrd s
  | .rld => Sys2Proof.Machine.execRld s
  | .ldi => Sys2Proof.Machine.execLdi s
  | .cpi => Sys2Proof.Machine.execCpi s
  | .ini => Sys2Proof.Machine.execIni s
  | .outi => Sys2Proof.Machine.execOuti s
  | .ldd => Sys2Proof.Machine.execLdd s
  | .cpd => Sys2Proof.Machine.execCpd s
  | .ind => Sys2Proof.Machine.execInd s
  | .outd => Sys2Proof.Machine.execOutd s
  | .ldir => Sys2Proof.Machine.execLdir s
  | .cpir => Sys2Proof.Machine.execCpir s
  | .inir => Sys2Proof.Machine.execInir s
  | .otir => Sys2Proof.Machine.execOtir s
  | .lddr => Sys2Proof.Machine.execLddr s
  | .cpdr => Sys2Proof.Machine.execCpdr s
  | .indr => Sys2Proof.Machine.execIndr s
  | .otdr => Sys2Proof.Machine.execOtdr s
  | .nopEd1 y => Sys2Proof.Machine.execNopEd1 y s
  | .nopEd0 x => Sys2Proof.Machine.execNopEd0 x s
  | .nopEd3 x => Sys2Proof.Machine.execNopEd3 x s
  | .nopEd2 y z => Sys2Proof.Machine.execNopEd2 y z s
  | .addIxPp x pp => Sys2Proof.Machine.execAddIxPp x pp s
  | .ldIxNn x nn => Sys2Proof.Machine.execLdIxNn x nn s
  | .ldMemIx x nn => Sys2Proof.Machine.execLdMemIx x nn s
  | .incIx x => Sys2Proof.Machine.execIncIx x s
  | .ldIxMem x nn => Sys2Proof.Machine.execLdIxMem x nn s
  | .decIx x => Sys2Proof.Machine.execDecIx x s
  | .incHalf x h => Sys2Proof.Machine.execIncHalf x h s
  | .decHalf x h => Sys2Proof.Machine.execDecHalf x h s
  | .ldHalfN x h n => Sys2Proof.Machine.execLdHalfN x h n s
  | .incX x d => Sys2Proof.Machine.execIncX x d s
  | .decX x d => Sys2Proof.Machine.execDecX x d s
  | .ldXN x d n => Sys2Proof.Machine.execLdXN x d n s
  | .ldRxRy x r r2 => Sys2Proof.Machine.execLdRxRy x r r2 s
  | .ldRX x r d => Sys2Proof.Machine.execLdRX x r d s
  | .ldXR x d r => Sys2Proof.Machine.execLdXR x d r s
  | .addAHalf x h => Sys2Proof.Machine.execAddAHalf x h s
  | .addAX x d => Sys2Proof.Machine.execAddAX x d s
  | .adcAHalf x h => Sys2Proof.Machine.execAdcAHalf x h s
  | .adcAX x d => Sys2Proof.Machine.execAdcAX x d s
  | .subHalf x h => Sys2Proof.Machine.execSubHalf x h s
  | .subX x d => Sys2Proof.Machine.execSubX x d s
  | .sbcAHalf x h => Sys2Proof.Machine.execSbcAHalf x h s
  | .sbcAX x d => Sys2Proof.Machine.execSbcAX x d s
  | .andHalf x h => Sys2Proof.Machine.execAndHalf x h s
  | .andX x d => Sys2Proof.Machine.execAndX x d s
  | .xorHalf x h => Sys2Proof.Machine.execXorHalf x h s
  | .xorX x d => Sys2Proof.Machine.execXorX x d s
  | .orHalf x h => Sys2Proof.Machine.execOrHalf x h s
  | .orX x d => Sys2Proof.Machine.execOrX x d s
  | .cpHalf x h => Sys2Proof.Machine.execCpHalf x h s
  | .cpX x d => Sys2Proof.Machine.execCpX x d s
  | .popIx x => Sys2Proof.Machine.execPopIx x s
  | .exSpIx x => Sys2Proof.Machine.execExSpIx x s
  | .pushIx x => Sys2Proof.Machine.execPushIx x s
  | .jpIx x => Sys2Proof.Machine.execJpIx x s
  | .ldSpIx x => Sys2Proof.Machine.execLdSpIx x s
  | .ignoredPrefix x next => Sys2Proof.Machine.execIgnoredPrefix x next s
  | .rlcX x d => Sys2Proof.Machine.execRlcX x d s
  | .rlcXR x d r => Sys2Proof.Machine.execRlcXR x d r s
  | .rrcX x d => Sys2Proof.Machine.execRrcX x d s
  | .rrcXR x d r => Sys2Proof.Machine.execRrcXR x d r s
  | .rlX x d => Sys2Proof.Machine.execRlX x d s
  | .rlXR x d r => Sys2Proof.Machine.execRlXR x d r s
  | .rrX x d => Sys2Proof.Machine.execRrX x d s
  | .rrXR x d r => Sys2Proof.Machine.execRrXR x d r s
  | .slaX x d => Sys2Proof.Machine.execSlaX x d s
  | .slaXR x d r => Sys2Proof.Machine.execSlaXR x d r s
  | .sraX x d => Sys2Proof.Machine.execSraX x d s
  | .sraXR x d r => Sys2Proof.Machine.execSraXR x d r s
  | .sllX x d => Sys2Proof.Machine.execSllX x d s
  | .sllXR x d r => Sys2Proof.Machine.execSllXR x d r s
  | .srlX x d => Sys2Proof.Machine.execSrlX x d s
  | .srlXR x d r => Sys2Proof.Machine.execSrlXR x d r s
  | .bitX x d b z => Sys2Proof.Machine.execBitX x d b z s
  | .resX x d b => Sys2Proof.Machine.execResX x d b s
  | .resXR x d b r => Sys2Proof.Machine.execResXR x d b r s
  | .setX x d b => Sys2Proof.Machine.execSetX x d b s
  | .setXR x d b r => Sys2Proof.Machine.execSetXR x d b r s

end Sys2Proof.Machine
end

