-- ==== Sys2Proof/Machine/Cycle.lean ====
section
/-! DEFINITION. The instruction step (40_execution_cycle.md, R171 to R176) and the halted idle step (R177): fetching, the
bookkeeping before `execute`, the record and the Tracer call after it. -/

namespace Sys2Proof.Machine

namespace State

/-- The instruction at PC: the decoder on the four bytes from PC on (R132, R173). The bytes past the instruction's own are
read without effect (R88, log 19). -/
def fetched (s : State) : Instr :=
  decode4 (s.read s.pc) (s.read (s.pc + 1)) (s.read (s.pc + 2)) (s.read (s.pc + 3))

/-- The bytes from PC on, as many as asked for (R173). -/
def bytesAt (s : State) (a : Word) : Nat → List Byte
  | 0 => []
  | n + 1 => s.read a :: s.bytesAt (a + 1) n

/-- The state `execute` starts from (R171): `Rinc(m1)`, PC past the instruction, INT_BLOCKED none. T is still T0. -/
def afterFetch (s : State) (i : Instr) : State :=
  { s.rInc i.m1 with pc := s.pc + BitVec.ofNat 16 i.length, intBlocked := .none }

/-- The boundary after a step: a `stop` the Tracer answered in it ends the run (R176). -/
def settle (s : State) : State :=
  if s.trace.stopPending then { s with runStatus := .stopped, trace := { s.trace with stopPending := false } } else s

/-- The end of a step that makes a record (R175, R176): the record, the `on_instruction` call, the boundary. -/
def recorded (s : State) (rec : InsnRecord) : State :=
  (({ s with trace := { s.trace with record := some rec } } : State).tracerCall 1).settle

/-- The halted idle step (R177). -/
def haltedIdle (s : State) : State :=
  ({ s.rInc 1 with intBlocked := .none, t := s.t + 4 } : State).recorded { addr := s.pc, bytes := [0x76], cost := 4 }

/-- The bytes `b0 … b3` placed from PC on, whatever ROM_LIMIT is: the platform's own placing, not a store. -/
def placeAtPc (s : State) (b0 b1 b2 b3 : Byte) : State :=
  { s with mem :=
      (((s.mem.set s.pc.toNat b0).set (s.pc + 1).toNat b1).set (s.pc + 2).toNat b2).set (s.pc + 3).toNat b3 }

end State

/-- The instruction step (R171). A fault changes nothing (R178). -/
def instructionStep (s : State) : Result :=
  let i := s.fetched
  match exec i (s.afterFetch i) with
  | .next s1 => .next (s1.recorded { addr := s.pc, bytes := s.bytesAt s.pc i.length, cost := s1.t - s.t })
  | .fault r => .fault r
  | .refused r => .refused r

end Sys2Proof.Machine
end

