-- ==== Sys2Proof/Machine/Accel.lean ====
section
/-! DEFINITION. The accelerator registry, the matcher and the accelerator step (48_fast_load.md, R450 to R466). -/

namespace Sys2Proof.Machine

/-! ## The registry (R450, R451, R456, R457) -/

/-- The canonical entry with this name. -/
def canonical (reg : Registry) (name : String) : Option Accelerator := reg.entries.find? (fun a => a.name == name)

/-- The demands R450 makes of a registry: no signature is empty, names are unique across both layers, and every second name
leads to a canonical one in one lookup. `step` does not check them (log 31); R455's demands of an entry are `entryValid`. -/
def registryValid (reg : Registry) : Bool :=
  let names := reg.entries.map (fun a => a.name)
  reg.entries.all (fun a => !a.signature.isEmpty) && decide (names ++ reg.otherNames.map (fun p => p.1)).Nodup
    && reg.otherNames.all (fun p => names.contains p.2)

/-- `resolve(name)` (R451): the canonical entry with that name, or else the one its second name leads to, in one lookup. -/
def resolve (reg : Registry) (name : String) : Option Accelerator :=
  match canonical reg name with
  | some a => some a
  | none =>
    match reg.otherNames.find? (fun p => p.1 == name) with
    | some p => canonical reg p.2
    | none => none

/-- The selected entries, in order (R456). -/
def selected (p : Params) : List Accelerator :=
  match p.selection with
  | .auto => p.registry.entries
  | .none => []
  | .names l => l.filterMap (resolve p.registry)

/-- The name E8 reports: the first of `ACCELERATOR_SELECTION`, in list order, that does not resolve. Where several do not, R457 and
R504 do not say which is reported (DESIGN CHOICE, log 38). -/
def unresolvedName (p : Params) : Option String :=
  match p.selection with
  | .auto => none
  | .none => none
  | .names l => l.find? (fun n => (resolve p.registry n).isNone)

/-! ## Matching (R452) -/

/-- One item against one byte. -/
def itemMatches (item : SigItem) (v : Byte) : Bool :=
  match item with
  | .literal b => b == v
  | .wildcard => true

/-- A signature against the bytes of a window from its first (R452); a window that ends first does not match. -/
def windowMatches : List SigItem → List Byte → Bool
  | [], _ => true
  | _ :: _, [] => false
  | item :: sig, v :: window => itemMatches item v && windowMatches sig window

/-- `match_accelerator(window)` (R452): the name of the first canonical entry whose signature matches. -/
def matchAccelerator (reg : Registry) (window : List Byte) : Option String :=
  (reg.entries.find? (fun a => windowMatches a.signature window)).map (fun a => a.name)

/-- A signature against memory from address `l` on (R452). -/
def matchesAt (s : State) (sig : List SigItem) (l : Word) : Bool :=
  match sig with
  | [] => true
  | item :: rest => itemMatches item (s.read l) && matchesAt s rest (l + 1)

/-- The active accelerator at PC (R456). -/
def activeAccelerator (s : State) : Option Accelerator :=
  (selected s.params).find? (fun a => matchesAt s a.signature s.pc)

/-! ## The accelerator step (R460 to R463) -/

/-- The most instruction steps one iteration is followed for, so that `step` is total: 2^64 of them take longer than any tape
(log 14). -/
def iterationFuel : Nat := 18446744073709551616

/-- The address lies in `[L, L + len)` (R460), addresses wrapping by `trunc16`. -/
def insideLoop (len : Nat) (l pc : Word) : Bool := decide ((pc - l).toNat < len)

/-- The rest of an iteration from loop entry `l` of a signature of `len` bytes (R460): the state in which PC is `l` again, or
nothing where PC leaves the loop. A fault ends it, and so does HALTED = 1 at another address than `l`: the next step would be no
instruction step (log 16). -/
def iterateFrom (len : Nat) (l : Word) : Nat → State → Option State
  | 0, _ => none
  | fuel + 1, s =>
    match instructionStep s with
    | .next s1 =>
      if s1.pc = l then some s1
      else if insideLoop len l s1.pc && !s1.halted then iterateFrom len l fuel s1
      else none
    | .fault _ => none
    | .refused _ => none

/-- One iteration of entry `a` from PC, if it loops (R460). From a halted core there is none (log 16). -/
def iteration (a : Accelerator) (s : State) : Option State :=
  if s.halted then none else iterateFrom a.signature.length s.pc iterationFuel s

/-- "while the iteration from L in state S loops" (R461): the state after the last iteration that loops, or nothing where
`fuel` iterations have looped and the next one still does. -/
def loopIterations (a : Accelerator) : Nat → State → Option State
  | 0, s => if (iteration a s).isSome then none else some s
  | fuel + 1, s =>
    match iteration a s with
    | some s1 => loopIterations a fuel s1
    | none => some s

/-- The iterations after which a loop that still goes on counts as one that never ends: one for each T-state to the last edge,
and 2^64 more, in which the level no longer changes (log 15). -/
def loopFuel (lastEdge t : Nat) : Nat := 18446744073709551616 + (lastEdge - t)

/-- The accelerator step at a boundary of the tape-loading environment, if it is taken (R461). It is E7 where no edge can end the
wait (R462), and where the loop never ends by itself: "The step always ends" (log 15). Inside it there are no Tracer calls and no
write hook, so the Tracer's side is as before it. -/
def acceleratorStep (tape : Tape) (nmi : Bool) (s : State) : Option Result :=
  if s.halted || s.iff1 || nmi then none
  else
    match activeAccelerator s with
    | none => none
    | some a =>
      match iteration a s with
      | none => none
      | some _ =>
        let lastEdge := tape.lastEdge s.params.tstatesPerMs
        if lastEdge ≤ s.t + a.inTime then some (.fault (.unexpectedEndOfTape s.pc s.t))
        else
          match loopIterations a (loopFuel lastEdge s.t) s with
          | none => some (.fault (.unexpectedEndOfTape s.pc s.t))
          | some s1 => some (.next { s1 with trace := { s.trace with record := none } })

/-! ## Validity of an entry (R455) -/

/-- The states from which the instruction steps of an iteration start, in order, for at most `fuel` steps (R460). -/
def pathFrom (len : Nat) (l : Word) : Nat → State → List State
  | 0, _ => []
  | fuel + 1, s =>
    match instructionStep s with
    | .next s1 => if s1.pc ≠ l ∧ insideLoop len l s1.pc = true then s :: pathFrom len l fuel s1 else [s]
    | .fault _ => [s]
    | .refused _ => [s]

/-- The states from which the instruction steps of the iteration from PC start. -/
def iterationPath (a : Accelerator) (s : State) : List State := pathFrom a.signature.length s.pc iterationFuel s

/-- The M1 fetches of the iteration from PC (R172). -/
def iterationM1 (a : Accelerator) (s : State) : Nat := ((iterationPath a s).map (fun x => x.fetched.m1)).sum

/-- The times of the port reads of the iteration from PC, each the T0 of its instruction (R174). -/
def iterationReads (a : Accelerator) (s : State) : List Nat :=
  ((iterationPath a s).filter (fun x => readsPort x.fetched)).map (fun x => x.t)

/-- `v` is an answer `PORT_READ` can give in the tape-loading environment: at some time, with some tape, from some port. -/
def canAnswer (p : Params) (v : Byte) : Prop :=
  ∃ (x : State) (tape : Tape) (port : Word), x.params = p ∧ x.tapePortByte tape port = v

/-- The same state with `v` for the answer of every port read. -/
def State.answered (s : State) (v : Byte) : State :=
  { s with params := { s.params with portRead := .function (.const v.toNat) } }

/-- What R455 asks of entry `a` at a loop entry: an iteration that loops takes exactly `loop_time` T-states and `loop_r_inc` M1
fetches and makes one port read, at `in_time` after its start; and the port value decides whether it loops only through the
bit `ear_mask`. -/
def entryValidAt (a : Accelerator) (s : State) : Prop :=
  (∀ u, iteration a s = some u →
    u.t = s.t + a.loopTime ∧ iterationM1 a s = a.loopRInc ∧ iterationReads a s = [s.t + a.inTime]) ∧
  (∀ v w, canAnswer s.params v → canAnswer s.params w → v &&& a.earMask = w &&& a.earMask →
    (iteration a (s.answered v)).isSome = (iteration a (s.answered w)).isSome)

/-- A loop entry of `a` in the tape-loading environment of a machine with parameters `p` (R452, R455). The return address on the
stack lies outside the loop: the rules take a RET in the loop to leave it ("an iteration that takes B to 0 exits (RET Z)",
R462; log 31). -/
def atLoopEntry (p : Params) (a : Accelerator) (s : State) : Prop :=
  s.params = p ∧ s.tape.isSome = true ∧ s.halted = false ∧ matchesAt s a.signature s.pc = true ∧
    insideLoop a.signature.length s.pc s.popped = false

/-- Entry `a` is valid on a machine with parameters `p` (R455): at every one of its loop entries, with the answers that machine's
`PORT_READ` gives. With `PORT_READ` rule R425 the `rom` entry is. No step asks this, "so an invalid entry gives wrong constants
but never wrong state" (log 31). -/
def entryValid (p : Params) (a : Accelerator) : Prop := ∀ s : State, atLoopEntry p a s → entryValidAt a s

end Sys2Proof.Machine
end

