-- ==== Sys2Proof/Machine/FastLoad.lean ====
section
/-! DEFINITION. The LD-BYTES trap (48_fast_load.md, R470 to R473), the load stop policy (R477), and the choice of the step at a
boundary (40_execution_cycle.md, R170). -/

namespace Sys2Proof.Machine

/-! ## The LD-BYTES trap -/

/-- The trap is taken at this boundary of the tape-loading environment (R470). -/
def trapTaken (s : State) : Bool :=
  s.params.fastLoad && !s.halted && s.pc == s.params.ldBytesAddr && flagC s.regs.f

/-- Block choice (R471) among the `Data` blocks in tape order, each with its index and `data_end`: the warnings of the blocks
skipped, and the block to load with its `data_end`, if there is one. -/
def chooseBlock (a : Byte) (de : Word) (t : Nat) : List (Nat × DataBlock × Nat) → List Warning × Option (DataBlock × Nat)
  | [] => ([], none)
  | (n, b, dataEnd) :: rest =>
    let others := chooseBlock a de t rest
    if dataEnd ≤ t then others
    else
      match b.data with
      | [] => (.emptyBlock n :: others.1, others.2)
      | flag :: _ =>
        if flag ≠ a then (.flagMismatch n flag a :: others.1, others.2)
        else if a = 0 ∧ de = 17 ∧ b.data.length < 19 then (.truncatedHeader n :: others.1, others.2)
        else ([], some (b, dataEnd))

/-- `s[j]` of R472: the block's bytes, padded with its last one. -/
def padded (data : List Byte) (j : Nat) : Byte := data.getD j (data.getLastD 0)

/-- `for j in 0 .. n-1: MemWrite(ix + j, 1, s[1 + j])` (R472). -/
def loadBytes (data : List Byte) (ix : Word) : Nat → State → State
  | 0, s => s
  | n + 1, s => (loadBytes data ix n s).write (ix + BitVec.ofNat 16 n) (padded data (n + 1))

/-- `s[0] xor s[1] xor ... xor s[n-1]` of R472. -/
def xorBytes (data : List Byte) : Nat → Byte
  | 0 => 0
  | n + 1 => xorBytes data n ^^^ padded data n

/-- The state after the trap has loaded a block (R472, R473). -/
def loadBlock (b : DataBlock) (dataEnd : Nat) (s : State) : State :=
  let n := s.de.toNat
  let s1 := loadBytes b.data s.regs.ix n s
  let h := xorBytes b.data (n + 2)
  { s1 with
    regs := { s1.regs with
      a := h, f := cpF h 0x01, b := 0xB0, d := 0, e := 0, h := h, l := padded b.data (n + 1)
      ix := s.regs.ix + BitVec.ofNat 16 n, sp := s1.regs.sp + 2 }
    pc := s1.popped
    memptr := s1.popped
    iff1 := true
    iff2 := true
    intBlocked := .none
    t := max s.t dataEnd
    trace := { s1.trace with record := none } }

/-- The trap's choice at this boundary (R471). -/
def trapChoice (tape : Tape) (s : State) : List Warning × Option (DataBlock × Nat) :=
  chooseBlock s.regs.a s.de s.t (tape.dataBlocks s.params.tstatesPerMs)

/-- The trap step (R471 to R473): the warnings are appended to the diagnostic list; E7 where no block is left. -/
def trapStep (tape : Tape) (s : State) : Result :=
  match trapChoice tape s with
  | (_, none) => .fault (.unexpectedEndOfTape s.pc s.t)
  | (warnings, some (b, dataEnd)) => .next { loadBlock b dataEnd s with warnings := s.warnings ++ warnings }

/-- The fast-load step at a boundary, if there is one (R170 row 3): the trap, or else the accelerator step. -/
def fastLoadStep (nmi : Bool) (s : State) : Option Result :=
  match s.tape with
  | none => none
  | some tape => if trapTaken s then some (trapStep tape s) else acceleratorStep tape nmi s

/-- The load stop policy (R477). -/
def loadStopHolds (s : State) : Bool :=
  match s.tape with
  | none => false
  | some tape =>
    match s.params.loadStop with
    | .start a => s.pc == a
    | .auto => decide (tape.lastDataEnd s.params.tstatesPerMs ≤ s.t) && decide (0x4000 ≤ s.pc.toNat)

/-! ## The step at a boundary (R170, R516) -/

/-- NMI acceptance is the step (R170 row 1, R515). -/
def nmiTaken (s : State) : Bool := s.nmiRequest && s.intBlocked != .afterPrefix

/-- Maskable acceptance is the step, if NMI acceptance is not (R170 row 2, R510). -/
def intTaken (s : State) : Bool := s.iff1 && s.intBlocked == .none && s.intRequest

/-- The step at a boundary of a running run: the first of the five kinds of R170 whose condition holds. -/
def boundaryStep (s : State) : Result :=
  let s1 := s.nextBoundary
  if nmiTaken s then .next s1.enterNmi
  else if intTaken s then acceptInt s1
  else
    match fastLoadStep s.nmiRequest s1 with
    | some r => r
    | none => if s.halted then .next s1.haltedIdle else instructionStep s1

end Sys2Proof.Machine
end

