-- ==== Sys2Proof/Machine/Step.lean ====
section
/-! DEFINITION. step: one transition of the core (R170), and how the host places an instruction where step fetches it. -/

namespace Sys2Proof.Machine

/-- One step. A run that is over takes none (R55). In the tape-loading environment the load stop policy is checked first, at
the boundary (R477, log 11). -/
def step (s : State) : Host.Outcome State Fault Refusal :=
  match s.runStatus with
  | .stopped => .refused .runOver
  | .faulted _ => .refused .runOver
  | .running => if loadStopHolds s then .next { s with runStatus := .stopped } else boundaryStep s

/-- `s` with the instruction of a table word stored at PC, zeros after it up to four bytes. The word's numbering is that of
`decodeTableWord` (log 1). -/
def State.withFetchWord (s : State) (nbits w : Nat) : State :=
  s.placeAtPc (tableByte nbits w 0) (tableByte nbits w 1) (tableByte nbits w 2) (tableByte nbits w 3)

end Sys2Proof.Machine
end

