-- ==== Sys2Proof/Machine/Hooks.lean ====
section
/-! DEFINITION. The memory interception hooks (20_memory.md R86): which accesses a step reports, in the order its pseudocode
makes them. The hooks observe only (D17), so they are a view of the state at the boundary and change no State (log 9). -/

namespace Sys2Proof.Machine

/-- One hook call: the read hook with its address, or the write hook with its address and value (R86). A write below ROM_LIMIT
is reported too (R84). -/
inductive Access where
  | read (a : Word)
  | write (a : Word) (v : Byte)
  deriving DecidableEq, Repr

/-- `MemRead(a, 2)`: two reads, the low address first (R87). -/
def wordRead (a : Word) : List Access := [.read a, .read (a + 1)]

/-- `MemWrite(a, 2, v)`: two writes, the low address first (R12, R87). -/
def wordWrite (a : Word) (v : Word) : List Access := [.write a (loOf v), .write (a + 1) (hiOf v)]

/-- `Push(v)`: the high byte first (R12). -/
def pushWrites (sp : Word) (v : Word) : List Access := [.write (sp - 1) (hiOf v), .write (sp - 2) (loOf v)]

/-- A byte read and written back changed: `INC (HL)`, `RLC (HL)` and the like (R96). -/
def change (a : Word) (v : Byte) : List Access := [.read a, .write a v]

/-- The data accesses `execute` makes, from the state after the fetch (R171). -/
def dataAccesses (i : Instr) (s : State) : List Access :=
  match i with
  | .ldBcA => [.write s.bc s.regs.a]
  | .ldDeA => [.write s.de s.regs.a]
  | .ldMemHl nn => wordWrite nn s.hl
  | .ldMemA nn => [.write nn s.regs.a]
  | .ldABc => [.read s.bc]
  | .ldADe => [.read s.de]
  | .ldHlMem nn => wordRead nn
  | .ldAMem nn => [.read nn]
  | .incM => change s.hl (inc8 (s.read s.hl) s.regs.f).1
  | .decM => change s.hl (dec8 (s.read s.hl) s.regs.f).1
  | .ldMN n => [.write s.hl n]
  | .ldRM _ => [.read s.hl]
  | .ldMR r => [.write s.hl (s.regs.get8 r)]
  | .addAM => [.read s.hl]
  | .adcAM => [.read s.hl]
  | .subM => [.read s.hl]
  | .sbcAM => [.read s.hl]
  | .andM => [.read s.hl]
  | .xorM => [.read s.hl]
  | .orM => [.read s.hl]
  | .cpM => [.read s.hl]
  | .retCc cc => if condHolds cc s.regs.f then wordRead s.regs.sp else []
  | .popQq _ => wordRead s.regs.sp
  | .ret => wordRead s.regs.sp
  | .exSpHl => wordRead s.regs.sp ++ wordWrite s.regs.sp s.hl
  | .callCcNn cc _ => if condHolds cc s.regs.f then pushWrites s.regs.sp s.pc else []
  | .pushQq qq => pushWrites s.regs.sp (s.regs.getPairQ qq)
  | .callNn _ => pushWrites s.regs.sp s.pc
  | .rst _ => pushWrites s.regs.sp s.pc
  | .rlcM => change s.hl (rot .rlc (s.read s.hl) s.regs.f).1
  | .rrcM => change s.hl (rot .rrc (s.read s.hl) s.regs.f).1
  | .rlM => change s.hl (rot .rl (s.read s.hl) s.regs.f).1
  | .rrM => change s.hl (rot .rr (s.read s.hl) s.regs.f).1
  | .slaM => change s.hl (rot .sla (s.read s.hl) s.regs.f).1
  | .sraM => change s.hl (rot .sra (s.read s.hl) s.regs.f).1
  | .sllM => change s.hl (rot .sll (s.read s.hl) s.regs.f).1
  | .srlM => change s.hl (rot .srl (s.read s.hl) s.regs.f).1
  | .bitM _ => [.read s.hl]
  | .resM b => change s.hl (resBit b (s.read s.hl))
  | .setM b => change s.hl (setBit b (s.read s.hl))
  | .ldMemDd dd nn => wordWrite nn (s.regs.getPair dd)
  | .ldDdMem _ nn => wordRead nn
  | .retn _ => wordRead s.regs.sp
  | .reti => wordRead s.regs.sp
  | .rrd => change s.hl ((s.regs.a <<< 4) ||| (s.read s.hl >>> 4))
  | .rld => change s.hl ((s.read s.hl <<< 4) ||| (s.regs.a &&& 0x0F))
  | .ldi => [.read s.hl, .write s.de (s.read s.hl)]
  | .cpi => [.read s.hl]
  | .ini => [.write s.hl (s.portByte s.bc)]
  | .outi => [.read s.hl]
  | .ldd => [.read s.hl, .write s.de (s.read s.hl)]
  | .cpd => [.read s.hl]
  | .ind => [.write s.hl (s.portByte s.bc)]
  | .outd => [.read s.hl]
  | .ldir => [.read s.hl, .write s.de (s.read s.hl)]
  | .cpir => [.read s.hl]
  | .inir => [.write s.hl (s.portByte s.bc)]
  | .otir => [.read s.hl]
  | .lddr => [.read s.hl, .write s.de (s.read s.hl)]
  | .cpdr => [.read s.hl]
  | .indr => [.write s.hl (s.portByte s.bc)]
  | .otdr => [.read s.hl]
  | .ldMemIx i nn => wordWrite nn (s.regs.getIdx i)
  | .ldIxMem _ nn => wordRead nn
  | .incX i d => change (s.ea i d) (inc8 (s.read (s.ea i d)) s.regs.f).1
  | .decX i d => change (s.ea i d) (dec8 (s.read (s.ea i d)) s.regs.f).1
  | .ldXN i d n => [.write (s.ea i d) n]
  | .ldRX i _ d => [.read (s.ea i d)]
  | .ldXR i d r => [.write (s.ea i d) (s.regs.get8 r)]
  | .addAX i d => [.read (s.ea i d)]
  | .adcAX i d => [.read (s.ea i d)]
  | .subX i d => [.read (s.ea i d)]
  | .sbcAX i d => [.read (s.ea i d)]
  | .andX i d => [.read (s.ea i d)]
  | .xorX i d => [.read (s.ea i d)]
  | .orX i d => [.read (s.ea i d)]
  | .cpX i d => [.read (s.ea i d)]
  | .popIx _ => wordRead s.regs.sp
  | .exSpIx i => wordRead s.regs.sp ++ wordWrite s.regs.sp (s.regs.getIdx i)
  | .pushIx i => pushWrites s.regs.sp (s.regs.getIdx i)
  | .rlcX i d => change (s.ea i d) (rot .rlc (s.read (s.ea i d)) s.regs.f).1
  | .rlcXR i d _ => change (s.ea i d) (rot .rlc (s.read (s.ea i d)) s.regs.f).1
  | .rrcX i d => change (s.ea i d) (rot .rrc (s.read (s.ea i d)) s.regs.f).1
  | .rrcXR i d _ => change (s.ea i d) (rot .rrc (s.read (s.ea i d)) s.regs.f).1
  | .rlX i d => change (s.ea i d) (rot .rl (s.read (s.ea i d)) s.regs.f).1
  | .rlXR i d _ => change (s.ea i d) (rot .rl (s.read (s.ea i d)) s.regs.f).1
  | .rrX i d => change (s.ea i d) (rot .rr (s.read (s.ea i d)) s.regs.f).1
  | .rrXR i d _ => change (s.ea i d) (rot .rr (s.read (s.ea i d)) s.regs.f).1
  | .slaX i d => change (s.ea i d) (rot .sla (s.read (s.ea i d)) s.regs.f).1
  | .slaXR i d _ => change (s.ea i d) (rot .sla (s.read (s.ea i d)) s.regs.f).1
  | .sraX i d => change (s.ea i d) (rot .sra (s.read (s.ea i d)) s.regs.f).1
  | .sraXR i d _ => change (s.ea i d) (rot .sra (s.read (s.ea i d)) s.regs.f).1
  | .sllX i d => change (s.ea i d) (rot .sll (s.read (s.ea i d)) s.regs.f).1
  | .sllXR i d _ => change (s.ea i d) (rot .sll (s.read (s.ea i d)) s.regs.f).1
  | .srlX i d => change (s.ea i d) (rot .srl (s.read (s.ea i d)) s.regs.f).1
  | .srlXR i d _ => change (s.ea i d) (rot .srl (s.read (s.ea i d)) s.regs.f).1
  | .bitX i d _ _ => [.read (s.ea i d)]
  | .resX i d b => change (s.ea i d) (resBit b (s.read (s.ea i d)))
  | .resXR i d b _ => change (s.ea i d) (resBit b (s.read (s.ea i d)))
  | .setX i d b => change (s.ea i d) (setBit b (s.read (s.ea i d)))
  | .setXR i d b _ => change (s.ea i d) (setBit b (s.read (s.ea i d)))
  | .nop | .exAfAf | .djnz .. | .jr .. | .jrCc .. | .ldDdNn .. | .addHlSs .. | .incSs .. | .decSs .. | .incR ..
  | .decR .. | .ldRN .. | .rlca | .rrca | .rla | .rra | .daa | .cpl | .scf | .ccf | .ldRR .. | .halt | .addAR ..
  | .addAN .. | .adcAR .. | .adcAN .. | .subR .. | .subN .. | .sbcAR .. | .sbcAN .. | .andR .. | .andN .. | .xorR ..
  | .xorN .. | .orR .. | .orN .. | .cpR .. | .cpN .. | .exx | .jpHl | .ldSpHl | .jpCcNn .. | .jpNn .. | .outNA ..
  | .inAN .. | .exDeHl | .di | .ei | .rlcR .. | .rrcR .. | .rlR .. | .rrR .. | .slaR .. | .sraR .. | .sllR ..
  | .srlR .. | .bitR .. | .resR .. | .setR .. | .inRC .. | .inFC | .outCR .. | .outC0 | .sbcHlSs .. | .adcHlSs ..
  | .neg .. | .im0 .. | .im1 .. | .im2 .. | .ldIA | .ldRA | .ldAI | .ldAR | .nopEd1 .. | .nopEd0 .. | .nopEd3 ..
  | .nopEd2 .. | .addIxPp .. | .ldIxNn .. | .incIx .. | .decIx .. | .incHalf .. | .decHalf .. | .ldHalfN ..
  | .ldRxRy .. | .addAHalf .. | .adcAHalf .. | .subHalf .. | .sbcAHalf .. | .andHalf .. | .xorHalf .. | .orHalf ..
  | .cpHalf .. | .jpIx .. | .ldSpIx .. | .ignoredPrefix .. => []

/-- The fetch of `n` bytes from `a` on (R173): opcode, operand and displacement bytes are reads, and reported. -/
def fetchReads (a : Word) : Nat → List Access
  | 0 => []
  | n + 1 => .read a :: fetchReads (a + 1) n

/-- The accesses of an instruction step (R171, R173): the fetch, then the data. -/
def instructionAccesses (s : State) : List Access :=
  fetchReads s.pc s.fetched.length ++ dataAccesses s.fetched (s.afterFetch s.fetched)

/-- The accesses of an acceptance (R512, R515): the push, and in mode 2 the vector. A mode 0 acceptance that raises E2 makes
none. -/
def intAccesses (s : State) : List Access :=
  let bus := s.params.intBusByte
  match s.im with
  | .im0 => if (bus &&& 0xC7) ≠ 0xC7 then [] else pushWrites s.regs.sp s.leaveHalt.pc
  | .im1 => pushWrites s.regs.sp s.leaveHalt.pc
  | .im2 => pushWrites s.regs.sp s.leaveHalt.pc ++ wordRead (wordOf s.i bus)

/-- The hook calls of the step at a boundary of a running run (R86, R170): none for a halted idle step, which "reads no memory"
(R177), none for a fast-load step (R452, R461, R473), none for a boundary at which the load stops (R477). -/
def stepAccesses (s : State) : List Access :=
  if s.runStatus ≠ .running ∨ loadStopHolds s = true then []
  else if nmiTaken s then pushWrites s.regs.sp s.leaveHalt.pc
  else if intTaken s then intAccesses s
  else
    match fastLoadStep s.nmiRequest s.nextBoundary with
    | some _ => []
    | none => if s.halted then [] else instructionAccesses s.nextBoundary

/-- The writes among the accesses, made on a state in their order (R93). -/
def applyWrites (s : State) : List Access → State
  | [] => s
  | .read _ :: rest => applyWrites s rest
  | .write a v :: rest => applyWrites (s.write a v) rest

/-- The address of a write among the accesses. -/
def writesTo (a : Word) (l : List Access) : Bool :=
  l.any (fun x => match x with
    | .read _ => false
    | .write b _ => a == b)

end Sys2Proof.Machine
end

