-- ==== Sys2Proof/Machine/Run.lean ====
section
/-! DEFINITION. The interfaces around the step: the RESET event (R57, R550), the launch of a run (R551), `run` with fuel (R180)
and `fast_load` (R476). -/

namespace Sys2Proof.Machine

/-! ## The RESET event -/

/-- The registers R57 leaves unspecified: "inputs of the reset, which a model takes as arguments or draws" (R550). -/
structure ResetInputs where
  bc : Word
  de : Word
  hl : Word
  ix : Word
  iy : Word
  shadow : Shadow
  memptr : Word
  deriving DecidableEq, Repr

/-- The RESET event (R57, R550): every piece of state at its reset value, memory unchanged. The parameters, the platform's
inputs, the tape and the Tracer's log are not the core's and stay (log 29). -/
def hardReset (u : ResetInputs) (s : State) : State :=
  { s with
    regs := { a := 0xFF, f := 0xFF, b := hiOf u.bc, c := loOf u.bc, d := hiOf u.de, e := loOf u.de, h := hiOf u.hl,
              l := loOf u.hl, ix := u.ix, iy := u.iy, sp := 0xFFFF }
    shadow := u.shadow
    pc := 0x0000
    i := 0x00
    r := 0x00
    iff1 := false
    iff2 := false
    im := .im0
    memptr := u.memptr
    intBlocked := .none
    halted := false
    t := 0
    runStatus := .running }

/-! ## Launch (R551) -/

/-- The `registers` argument of `run`: what the caller gives; everything omitted is 0 (R551). -/
structure LaunchRegs where
  bytes  : List (ByteId × Byte)
  words  : List (WordId × Word)
  iff1   : Bool
  iff2   : Bool
  im     : IntMode
  memptr : Word
  t      : Nat
  halted : Bool
  deriving DecidableEq, Repr

/-- Nothing given: every value 0 (R551). -/
def LaunchRegs.none : LaunchRegs :=
  { bytes := [], words := [], iff1 := false, iff2 := false, im := .im0, memptr := 0, t := 0, halted := false }

/-- The bytes of a memory argument from address `a` on, in the canonical form. -/
def memoryOf : Nat → List Byte → Memory
  | _, [] => []
  | a, v :: rest => if v = Memory.blank then memoryOf (a + 1) rest else (a, v) :: memoryOf (a + 1) rest

/-- All registers 0, the rest as R551 says, before the registers given are put in. -/
def launchBase (regs : LaunchRegs) (mem : Memory) (params : Params) (env : Env) : State :=
  { regs := { a := 0, f := 0, b := 0, c := 0, d := 0, e := 0, h := 0, l := 0, ix := 0, iy := 0, sp := 0 }
    shadow := { a := 0, f := 0, b := 0, c := 0, d := 0, e := 0, h := 0, l := 0 }
    pc := 0, i := 0, r := 0
    iff1 := regs.iff1, iff2 := regs.iff2, im := regs.im, memptr := regs.memptr
    intBlocked := .none, halted := regs.halted, t := regs.t, runStatus := .running
    mem := mem
    trace := { record := none, portWrites := [], border := none, stopPending := false }
    env := env, tape := none, warnings := [], params := params }

/-- The 8-bit registers a 16-bit identifier is made of (R31, R32, R33): none for SP and PC. -/
def WordId.halves : WordId → List ByteId
  | .sp => []
  | .pc => []
  | .af => [.a, .f]
  | .bc => [.b, .c]
  | .de => [.d, .e]
  | .hl => [.h, .l]
  | .af' => [.a', .f']
  | .bc' => [.b', .c']
  | .de' => [.d', .e']
  | .hl' => [.h', .l']
  | .ix => [.ixh, .ixl]
  | .iy => [.iyh, .iyl]

/-- The registers given, put into a state: the bytes first, then the words, each list from its first entry on, so that where the
caller gives a register twice, or a pair and one of its halves, a word overrides a byte and the last entry wins. R551 is silent
there (DESIGN CHOICE, log 36). -/
def putRegs (regs : LaunchRegs) (s : State) : State :=
  regs.words.foldl (fun acc w => acc.setWord w.1 w.2) (regs.bytes.foldl (fun acc b => acc.setByte b.1 b.2) s)

/-- The launch state (R551): refused (`none`) unless the memory argument is exactly 65536 bytes. -/
def launch (memory : List Byte) (regs : LaunchRegs) (startPc : Word) (params : Params) (env : Env) : Option State :=
  if memory.length = Memory.size then
    some { putRegs regs (launchBase regs (memoryOf 0 memory) params env) with pc := startPc, runStatus := .running }
  else none

/-! ## run (R180) -/

/-- The warnings the step at this boundary emits: those of the LD-BYTES trap, where the trap is the step (R170, R471). A trap
that ends in E7 emits them too (log 13). -/
def stepWarnings (s : State) : List Warning :=
  match s.tape with
  | none => []
  | some tape => if trapTaken s && !nmiTaken s && !intTaken s then (trapChoice tape s).1 else []

/-- The state a run ends in when its step faults (R178, R502): the state at the boundary, with RUN_STATUS `faulted(kind)` and
the faulting step's warnings in the diagnostic list. -/
def faultedWith (s : State) (f : Fault) : State :=
  { s with runStatus := .faulted f, warnings := s.warnings ++ stepWarnings s }

/-- `run` with fuel (R180): steps while RUN_STATUS is running. With the fuel out the status is still `running`. -/
def run : Nat → State → State
  | 0, s => s
  | fuel + 1, s =>
    match step s with
    | .next s1 => run fuel s1
    | .fault f => faultedWith s f
    | .refused _ => s

/-! ## fast_load (R476) -/

/-- What `fast_load` answers as an error (R500, R502): E8, E3 to E6, or the fault of a step. -/
inductive LoadError where
  /-- E8 `LoadError.UnrecognisedAccelerator` (R457). -/
  | unrecognisedAccelerator (name : String)
  /-- E3 to E6. -/
  | tape (e : TapeError)
  /-- E1, E2 or E7. -/
  | step (f : Fault)
  deriving DecidableEq, Repr

/-- The message of an error that has one in the spec: E5's (R412) and E8's (R457). -/
def LoadError.message : LoadError → String
  | .unrecognisedAccelerator name => "unrecognised accelerator " ++ name
  | .tape e => e.message
  | .step _ => "the run faulted"

/-- The answer of `fast_load`, with the simulator's state at its end. -/
inductive LoadResult where
  | ok (s : State)
  | error (e : LoadError) (s : State)
  /-- The caller's fuel ran out: neither `Ok` nor `Err` (log 23). -/
  | outOfFuel (s : State)
  deriving DecidableEq, Repr

/-- Line 4 of R476: the tape-loading environment entered, with `TAPE_START_T` (R421, R553). -/
def enterTape (blocks : List Block) (s : State) : State :=
  { s with tape := some { blocks := blocks, startT := s.params.tapeStartT.getD s.t }, runStatus := .running }

/-- Line 6 of R476, from the state the run ended in. The environment holds "for the rest of the load" (R553) and is left when
the load stops. -/
def loadOutcome (s : State) : LoadResult :=
  match s.runStatus with
  | .stopped => .ok { s with tape := none }
  | .faulted f => .error (.step f) s
  | .running => .outOfFuel s

/-- `fast_load` (R476) of a container of the given kind, with the caller's fuel. -/
def fastLoad (kind : TapeKind) (container : List Byte) (fuel : Nat) (s : State) : LoadResult :=
  match unresolvedName s.params with
  | some name => .error (.unrecognisedAccelerator name) s
  | none =>
    match decodeTape s.params.tzxUnsupported kind container with
    | .error e => .error (.tape e) s
    | .ok blocks => loadOutcome (run fuel (enterTape blocks s))

end Sys2Proof.Machine
end

