-- ==== Sys2Proof/Safety.lean ====
section
/-! DEFINITION. The terms claims are made in: what a safe run is, the invariant of the machine, what a store does to memory as a
program reads it, what a flag byte holds, and the families of instructions that differ in one operation. -/

namespace Sys2Proof.Machine

/-! ## Safe runs -/

/-- The step at `s` completes: it is no fault and no refusal. -/
def Completes (s : State) : Prop := ∃ t, step s = .next t

/-- The parameters and the environment leave no fault possible: an undefined ED opcode is a no-op (R362), the bus byte is an
RST (R512), and there is no tape to run out of (R462, R471). -/
structure FaultFree (s : State) : Prop where
  edNop : s.params.edUndefined = .nop
  busRst : s.params.intBusByte &&& 0xC7 = 0xC7
  noTape : s.tape = none

/-- The invariant of the machine at a boundary. -/
structure Inv (s : State) : Prop where
  /-- The memory image is in its canonical form. -/
  memWf : s.mem.wf = true
  /-- No answer of the Tracer is left over (R176). -/
  noStopPending : s.trace.stopPending = false
  /-- A halted core's PC holds the address of a HALT, and nothing blocks an interrupt (R51, R52). -/
  haltedAtHalt : s.halted = true → s.read s.pc = 0x76 ∧ s.intBlocked = .none
  /-- Directly after EI both flip-flops are set (R51, R357). -/
  enabledAfterEi : s.intBlocked = .afterEi → s.iff1 = true ∧ s.iff2 = true

/-- The step at `s` is not an interrupt acceptance: an NMI is not requested, or is blocked after a prefix (R511), and a
maskable interrupt is not requested, not enabled or blocked (R510). -/
structure NoAcceptance (s : State) : Prop where
  noNmi : s.nmiRequest = false ∨ s.intBlocked = .afterPrefix
  noInt : s.intRequest = false ∨ s.iff1 = false ∨ s.intBlocked ≠ .none

/-! ## Memory as a program reads it -/

/-- From `s` to `t` one byte was stored: v at a, ignored below ROM_LIMIT (R84), and every other byte reads as before. -/
def StoresByte (s t : State) (a : Word) (v : Byte) : Prop :=
  t.read a = (if a.toNat < s.params.romLimit then s.read a else v) ∧ ∀ b, b ≠ a → t.read b = s.read b

/-- From `s` to `t` one word was stored, low byte at a and high byte at a + 1 (R81), each ignored below ROM_LIMIT, and every
other byte reads as before. -/
def StoresWord (s t : State) (a v : Word) : Prop :=
  t.read a = (if a.toNat < s.params.romLimit then s.read a else loOf v) ∧
  t.read (a + 1) = (if (a + 1).toNat < s.params.romLimit then s.read (a + 1) else hiOf v) ∧
  ∀ b, b ≠ a → b ≠ a + 1 → t.read b = s.read b

/-! ## Flags -/

/-- The number of 1 bits of a byte. -/
def ones (v : Byte) : Nat := (List.range 8).countP (fun i => v.getLsbD i)

/-- F holds these eight flags, bit 7 first (R40). -/
structure FlagsAre (f : Byte) (s z f5 h f3 pv n c : Bool) : Prop where
  sign : flagS f = s
  zero : flagZ f = z
  five : flag5 f = f5
  half : flagH f = h
  three : flag3 f = f3
  parityOverflow : flagPV f = pv
  subtract : flagN f = n
  carry : flagC f = c

/-! ## Families -/

/-- The ALU instruction of an operation on a register (R250). -/
def aluR : AluOp → Reg8 → Instr
  | .add => .addAR
  | .adc => .adcAR
  | .sub => .subR
  | .sbc => .sbcAR
  | .and => .andR
  | .xor => .xorR
  | .or => .orR
  | .cp => .cpR

/-- The ALU instruction of an operation on (HL) (R250). -/
def aluM : AluOp → Instr
  | .add => .addAM
  | .adc => .adcAM
  | .sub => .subM
  | .sbc => .sbcAM
  | .and => .andM
  | .xor => .xorM
  | .or => .orM
  | .cp => .cpM

/-- The ALU instruction of an operation on an immediate (R250). -/
def aluN : AluOp → Byte → Instr
  | .add => .addAN
  | .adc => .adcAN
  | .sub => .subN
  | .sbc => .sbcAN
  | .and => .andN
  | .xor => .xorN
  | .or => .orN
  | .cp => .cpN

/-- The ALU instruction of an operation on a half of IX or IY (R250). -/
def aluH : AluOp → Idx → Half → Instr
  | .add => .addAHalf
  | .adc => .adcAHalf
  | .sub => .subHalf
  | .sbc => .sbcAHalf
  | .and => .andHalf
  | .xor => .xorHalf
  | .or => .orHalf
  | .cp => .cpHalf

/-- The ALU instruction of an operation on (XY+d) (R250). -/
def aluX : AluOp → Idx → Byte → Instr
  | .add => .addAX
  | .adc => .adcAX
  | .sub => .subX
  | .sbc => .sbcAX
  | .and => .andX
  | .xor => .xorX
  | .or => .orX
  | .cp => .cpX

/-- The shift or rotate of a register (R304). -/
def rotR : RotOp → Reg8 → Instr
  | .rlc => .rlcR
  | .rrc => .rrcR
  | .rl => .rlR
  | .rr => .rrR
  | .sla => .slaR
  | .sra => .sraR
  | .sll => .sllR
  | .srl => .srlR

/-- The shift or rotate of (HL) (R304). -/
def rotM : RotOp → Instr
  | .rlc => .rlcM
  | .rrc => .rrcM
  | .rl => .rlM
  | .rr => .rrM
  | .sla => .slaM
  | .sra => .sraM
  | .sll => .sllM
  | .srl => .srlM

/-- The shift or rotate of (XY+d) (R304). -/
def rotX : RotOp → Idx → Byte → Instr
  | .rlc => .rlcX
  | .rrc => .rrcX
  | .rl => .rlX
  | .rr => .rrX
  | .sla => .slaX
  | .sra => .sraX
  | .sll => .sllX
  | .srl => .srlX

/-- The shift or rotate of (XY+d) with a copy in a register (R304). -/
def rotXR : RotOp → Idx → Byte → Reg8 → Instr
  | .rlc => .rlcXR
  | .rrc => .rrcXR
  | .rl => .rlXR
  | .rr => .rrXR
  | .sla => .slaXR
  | .sra => .sraXR
  | .sll => .sllXR
  | .srl => .srlXR

/-! ## Tape containers -/

/-- The bytes are one TZX record that decodes (R406): an id of table R407 that is not in TZX_UNSUPPORTED, and a body of exactly
the length its own fields give. -/
def IsTzxRecord (unsupported : List Byte) (bytes : List Byte) : Prop :=
  ∃ id body row n, bytes = id :: body ∧ unsupported.contains id = false ∧ tzxRow id = some row ∧
    leField body row.fieldOff row.fieldLen = some n ∧ body.length = row.base + row.mult * n

/-- The blocks a TZX record yields (R407). -/
def recordBlocks : List Byte → List Block
  | [] => []
  | id :: body => tzxProduce id body

/-- A TAP record: the length, low byte first, and the bytes (R403). -/
def tapRecord (data : List Byte) : List Byte := BitVec.ofNat 8 data.length :: BitVec.ofNat 8 (data.length / 256) :: data

/-! ## Sequences of steps -/

/-- `n` instruction steps in a row, nothing where one does not complete (R171). -/
def instructionSteps : Nat → State → Option State
  | 0, s => some s
  | n + 1, s =>
    match instructionStep s with
    | .next t => instructionSteps n t
    | .fault _ => none
    | .refused _ => none

/-- `a` is the active accelerator at PC (R456): the first selected entry that matches there. -/
def IsActive (s : State) (a : Accelerator) : Prop :=
  ∃ before after, selected s.params = before ++ a :: after ∧
    (∀ b ∈ before, matchesAt s b.signature s.pc = false) ∧ matchesAt s a.signature s.pc = true

/-- `k` iterations in a row, nothing where one of them does not loop (R460). -/
def iterations (a : Accelerator) : Nat → State → Option State
  | 0, s => some s
  | k + 1, s =>
    match iteration a s with
    | some s1 => iterations a k s1
    | none => none

/-- What a repeating block instruction leaves of `u`, the state after one iteration of its single form apart from PC, MEMPTR
and T: where it repeats, PC is back at the instruction (two bytes before the PC of `s`) and MEMPTR is one past that, for 21 T,
and otherwise 16 T (R240, R386). -/
def afterIteration (s u : State) (again : Bool) : State :=
  if again then { u with pc := s.pc - 2, memptr := s.pc - 1, t := s.t + 21 } else { u with t := s.t + 16 }

end Sys2Proof.Machine
end

