-- ==== Sys2Proof/WellFormed.lean ====
section
/-! DEFINITION. Which terms of Instr are instructions: the `constraints` of the rows of spec/opcode_table.json that the operand
types do not already carry. -/

namespace Sys2Proof

/-- The row's constraints hold. -/
def Instr.wellFormed : Instr → Bool
  -- JR cc takes codes 0 to 3 only (R343, R124)
  | .jrCc cc _ => cc.code < 4
  -- at least one operand is a half (R218)
  | .ldRxRy _ r r2 => r == .xh || r == .xl || r2 == .xh || r2 == .xl
  -- y = 1 is RETI (R352)
  | .retn y => y != 1
  -- R358
  | .im0 y => y == 0 || y == 1 || y == 4 || y == 5
  -- R359
  | .im1 y => y == 2 || y == 6
  -- R360
  | .im2 y => y == 3 || y == 7
  -- R362
  | .nopEd1 y => y == 6 || y == 7
  -- R362
  | .nopEd2 y z => !(4 ≤ y.toNat && z.toNat ≤ 3)
  -- R361, R128
  | .ignoredPrefix _ next => !indexable next
  | .nop | .exAfAf | .djnz .. | .jr .. | .ldDdNn .. | .addHlSs .. | .ldBcA | .ldDeA | .ldMemHl .. | .ldMemA ..
  | .ldABc | .ldADe | .ldHlMem .. | .ldAMem .. | .incSs .. | .decSs .. | .incR .. | .incM | .decR .. | .decM
  | .ldRN .. | .ldMN .. | .rlca | .rrca | .rla | .rra | .daa | .cpl | .scf | .ccf | .ldRR .. | .ldRM ..
  | .ldMR .. | .halt | .addAR .. | .addAM | .addAN .. | .adcAR .. | .adcAM | .adcAN .. | .subR .. | .subM
  | .subN .. | .sbcAR .. | .sbcAM | .sbcAN .. | .andR .. | .andM | .andN .. | .xorR .. | .xorM | .xorN ..
  | .orR .. | .orM | .orN .. | .cpR .. | .cpM | .cpN .. | .retCc .. | .popQq .. | .ret | .exx | .jpHl | .ldSpHl
  | .jpCcNn .. | .jpNn .. | .outNA .. | .inAN .. | .exSpHl | .exDeHl | .di | .ei | .callCcNn .. | .pushQq ..
  | .callNn .. | .rst .. | .rlcR .. | .rlcM | .rrcR .. | .rrcM | .rlR .. | .rlM | .rrR .. | .rrM | .slaR ..
  | .slaM | .sraR .. | .sraM | .sllR .. | .sllM | .srlR .. | .srlM | .bitR .. | .bitM .. | .resR .. | .resM ..
  | .setR .. | .setM .. | .inRC .. | .inFC | .outCR .. | .outC0 | .sbcHlSs .. | .adcHlSs .. | .ldMemDd ..
  | .ldDdMem .. | .neg .. | .reti | .ldIA | .ldRA | .ldAI | .ldAR | .rrd | .rld | .ldi | .cpi | .ini | .outi
  | .ldd | .cpd | .ind | .outd | .ldir | .cpir | .inir | .otir | .lddr | .cpdr | .indr | .otdr | .nopEd0 ..
  | .nopEd3 .. | .addIxPp .. | .ldIxNn .. | .ldMemIx .. | .incIx .. | .ldIxMem .. | .decIx .. | .incHalf ..
  | .decHalf .. | .ldHalfN .. | .incX .. | .decX .. | .ldXN .. | .ldRX .. | .ldXR .. | .addAHalf .. | .addAX ..
  | .adcAHalf .. | .adcAX .. | .subHalf .. | .subX .. | .sbcAHalf .. | .sbcAX .. | .andHalf .. | .andX ..
  | .xorHalf .. | .xorX .. | .orHalf .. | .orX .. | .cpHalf .. | .cpX .. | .popIx .. | .exSpIx .. | .pushIx ..
  | .jpIx .. | .ldSpIx .. | .rlcX .. | .rlcXR .. | .rrcX .. | .rrcXR .. | .rlX .. | .rlXR .. | .rrX ..
  | .rrXR .. | .slaX .. | .slaXR .. | .sraX .. | .sraXR .. | .sllX .. | .sllXR .. | .srlX .. | .srlXR ..
  | .bitX .. | .resX .. | .resXR .. | .setX .. | .setXR .. => true

end Sys2Proof
end

