-- ==== Sys2Proof/Certificates/Slice0/Obligations.lean ====
section
/-! DEFINITION. The statements for the provers. In a statement about `exec i s`, s is the state exec starts from: PC points past
the instruction, R has advanced and T is still T0 (R14, R171; log 17). An equation `exec i s = .next { s with … }` says that i
completes from every s and that everything not named in it is unchanged: registers, flags, memory, special registers. -/

open Sys2Proof Sys2Proof.Machine

/-! ## Encoding -/

/-- Words written out from the encodings of 30_encoding.md and files 41 to 45 decode to the instructions they stand for. -/
def Obligations.SpecWordsDecode : Prop :=
  decode [0x78] = .ok (.ldRR .a .b) ∧
  decode [0x3E, 0x7F] = .ok (.ldRN .a 0x7F) ∧
  decode [0xDD, 0x36, 0xFE, 0x77] = .ok (.ldXN .ix 0xFE 0x77) ∧
  decode [0xFD, 0x21, 0x3A, 0x5C] = .ok (.ldIxNn .iy 0x5C3A) ∧
  decode [0xED, 0x7B, 0x00, 0x90] = .ok (.ldDdMem .sp 0x9000) ∧
  decode [0xED, 0xB0] = .ok .ldir ∧
  decode [0xDD, 0x84] = .ok (.addAHalf .ix .hi) ∧
  decode [0xDE, 0x01] = .ok (.sbcAN 0x01) ∧
  decode [0xED, 0x52] = .ok (.sbcHlSs .de) ∧
  decode [0xCB, 0x37] = .ok (.sllR .a) ∧
  decode [0xDD, 0xCB, 0x05, 0x00] = .ok (.rlcXR .ix 0x05 .b) ∧
  decode [0xFD, 0xCB, 0xFF, 0xC0] = .ok (.setXR .iy 0xFF 0 .b) ∧
  decode [0xDD, 0xCB, 0x05, 0x7E] = .ok (.bitX .ix 0x05 7 6) ∧
  decode [0xCA, 0x00, 0x90] = .ok (.jpCcNn .z 0x9000) ∧
  decode [0x38, 0x02] = .ok (.jrCc .c 0x02) ∧
  decode [0xED, 0x55] = .ok (.retn 2) ∧
  decode [0xED, 0x6E] = .ok (.im0 5) ∧
  decode [0xDD, 0x00] = .ok (.ignoredPrefix .ix 0x00) ∧
  decode [0xED, 0xCB] = .ok (.nopEd3 0x0B) ∧
  decode [0xED, 0x71] = .ok .outC0 ∧
  decode [0xED, 0x7B, 0x00] = .error .truncated

/-- Decode of encode is the instruction, whatever bytes follow it (R120 to R138). -/
def Obligations.DecodeOfEncodeIsTheInstruction : Prop :=
  ∀ (i : Instr) (rest : List Byte), i.wellFormed = true → decode (encode i ++ rest) = .ok i

/-- Every byte sequence decodes, to a well-formed instruction whose encoding is the bytes the decoder looked at (R132, R139), and
that is the only well-formed instruction whose encoding begins the sequence: no two instructions share an encoding and no bit is
dropped. -/
def Obligations.EveryByteSequenceIsOneInstruction : Prop :=
  ∀ b0 b1 b2 b3 : Byte, ∃ i, decode [b0, b1, b2, b3] = .ok i ∧ i.wellFormed = true ∧
    encode i = [b0, b1, b2, b3].take i.window ∧
    ∀ j : Instr, j.wellFormed = true → encode j = [b0, b1, b2, b3].take j.window → j = i

/-! ## Operands and memory -/

/-- A pair is the concatenation of its halves and IX and IY are that of theirs; writing either view changes the other at once, and
nothing else: for every way of writing a register, each register reads its new value or what it was (R31, R33). -/
def Obligations.RegisterViewsShareOneStorage : Prop :=
  (∀ (r : Regs) (n : Reg8) (v : Byte),
    (∀ m, (r.set8 n v).get8 m = if m = n then v else r.get8 m) ∧
    (r.set8 n v).f = r.f ∧ (∀ y, (r.set8 n v).getIdx y = r.getIdx y) ∧ (r.set8 n v).sp = r.sp) ∧
  (∀ (r : Regs) (p : Pair) (v : Word),
    (∀ q, (r.setPair p v).getPair q = if q = p then v else r.getPair q) ∧
    (r.setPair p v).af = r.af ∧ (∀ y, (r.setPair p v).getIdx y = r.getIdx y)) ∧
  (∀ (r : Regs) (p : PairQ) (v : Word),
    (∀ q, (r.setPairQ p v).getPairQ q = if q = p then v else r.getPairQ q) ∧
    (∀ y, (r.setPairQ p v).getIdx y = r.getIdx y) ∧ (r.setPairQ p v).sp = r.sp) ∧
  (∀ (r : Regs) (v : Word), r.setBc v = r.setPair .bc v ∧ r.setDe v = r.setPair .de v ∧ r.setHl v = r.setPair .hl v ∧
    r.setAf v = r.setPairQ .af v) ∧
  (∀ (r : Regs) (x : Idx) (v : Word),
    (∀ y, (r.setIdx x v).getIdx y = if y = x then v else r.getIdx y) ∧
    (∀ m, (r.setIdx x v).get8 m = r.get8 m) ∧ (r.setIdx x v).f = r.f ∧ (r.setIdx x v).sp = r.sp) ∧
  (∀ (r : Regs) (x : Idx) (h : Half) (v : Byte),
    (∀ k, (r.setHalf x h v).getHalf x k = if k = h then v else r.getHalf x k) ∧
    (∀ y, y ≠ x → (r.setHalf x h v).getIdx y = r.getIdx y) ∧
    (∀ m, (r.setHalf x h v).get8 m = r.get8 m) ∧ (r.setHalf x h v).f = r.f ∧ (r.setHalf x h v).sp = r.sp) ∧
  (∀ (r : Regs) (x : Idx) (n : RegX) (v : Byte),
    (∀ m, (r.setX x n v).getX x m = if m = n then v else r.getX x m) ∧
    (∀ y, y ≠ x → (r.setX x n v).getIdx y = r.getIdx y) ∧
    (r.setX x n v).h = r.h ∧ (r.setX x n v).l = r.l ∧ (r.setX x n v).f = r.f ∧ (r.setX x n v).sp = r.sp) ∧
  (∀ r : Regs, r.bc.toNat = r.b.toNat * 256 + r.c.toNat ∧ r.de.toNat = r.d.toNat * 256 + r.e.toNat ∧
    r.hl.toNat = r.h.toNat * 256 + r.l.toNat ∧ r.af.toNat = r.a.toNat * 256 + r.f.toNat) ∧
  (∀ (r : Regs) (x : Idx), (r.getIdx x).toNat = (r.getHalf x .hi).toNat * 256 + (r.getHalf x .lo).toNat)

/-- The effective address is XY plus the signed displacement modulo 65536 (R129), and the target of a relative jump, whose PC
already stands at PC0 + 2, is PC0 + 2 plus the signed offset modulo 65536 (R131). -/
def Obligations.DisplacementsAreSigned : Prop :=
  (∀ (s : State) (x : Idx) (d : Byte),
    ((s.ea x d).toNat : Int) = ((s.regs.getIdx x).toNat + (if d.toNat < 128 then (d.toNat : Int) else d.toNat - 256)) % 65536) ∧
  (∀ (s : State) (pc0 : Word) (e : Byte), s.pc = pc0 + 2 →
    ((s.relTarget e).toNat : Int)
      = (pc0.toNat + 2 + (if e.toNat < 128 then (e.toNat : Int) else e.toNat - 256)) % 65536)

/-- `MemWrite(a, 1, v)` stores v at a when a is at or above ROM_LIMIT, and nothing below it; no other byte changes, and the
canonical form is kept (R84). -/
def Obligations.AStoreWritesOneByteAboveRomLimit : Prop :=
  ∀ (s : State) (a : Word) (v : Byte), s.mem.wf = true →
    StoresByte s (s.write a v) a v ∧ (s.write a v).mem.wf = true ∧
      (a.toNat < s.params.romLimit → s.write a v = s)

/-- All of memory after any instruction is memory before it with the stores it reports to the write hook made in their order;
so every byte at an address it does not store to reads as before (R84, R86). -/
def Obligations.MemoryChangesOnlyByReportedStores : Prop :=
  ∀ (i : Instr) (s t : State), exec i s = .next t →
    t.mem = (applyWrites s (dataAccesses i s)).mem ∧
      ∀ a : Word, writesTo a (dataAccesses i s) = false → t.read a = s.read a

/-- No step of any kind, loads of whole tape blocks included, changes a byte below ROM_LIMIT (R84, R98). -/
def Obligations.NoStepChangesRom : Prop :=
  ∀ (s t : State) (a : Word), step s = .next t → a.toNat < s.params.romLimit → t.read a = s.read a

/-! ## Loads, the stack and exchanges -/

/-- LD of a byte into a register, from a register, an immediate or memory, MEMPTR included: R200 to R203, R208 to R210, R218, R219. -/
def Obligations.LoadsOfBytes : Prop :=
  (∀ s : State,
     (∀ r r2, exec (.ldRR r r2) s = .next { s with regs := s.regs.set8 r (s.regs.get8 r2), t := s.t + 4 }) ∧
     (∀ r n, exec (.ldRN r n) s = .next { s with regs := s.regs.set8 r n, t := s.t + 7 }) ∧
     (∀ x r r2, exec (.ldRxRy x r r2) s = .next { s with regs := s.regs.setX x r (s.regs.getX x r2), t := s.t + 8 }) ∧
     (∀ x h n, exec (.ldHalfN x h n) s = .next { s with regs := s.regs.setHalf x h n, t := s.t + 11 })) ∧
  (∀ s : State,
     (∀ r, exec (.ldRM r) s = .next { s with regs := s.regs.set8 r (s.read s.regs.hl), t := s.t + 7 }) ∧
     (∀ x r d, exec (.ldRX x r d) s =
       .next { s with regs := s.regs.set8 r (s.read (s.ea x d)), memptr := s.ea x d, t := s.t + 19 }) ∧
     exec .ldABc s = .next { s with regs := { s.regs with a := s.read s.regs.bc }, memptr := s.regs.bc + 1, t := s.t + 7 } ∧
     exec .ldADe s = .next { s with regs := { s.regs with a := s.read s.regs.de }, memptr := s.regs.de + 1, t := s.t + 7 } ∧
     (∀ nn, exec (.ldAMem nn) s =
       .next { s with regs := { s.regs with a := s.read nn }, memptr := nn + 1, t := s.t + 13 }))

/-- The stores of a byte (R204 to R207, R211 to R213) and of a word (R225 to R227), low byte first (R81, R82). Only the bytes at the
destination are stored, no register and no flag changes, and MEMPTR is as the rules say (for the stores of A through a pair or an
address: A over the low byte of the address plus 1). -/
def Obligations.StoresToMemory : Prop :=
  (∀ s : State, s.mem.wf = true →
     (∀ r, ∃ t, exec (.ldMR r) s = .next t ∧ t = { s with mem := t.mem, t := s.t + 7 } ∧
       StoresByte s t s.regs.hl (s.regs.get8 r)) ∧
     (∀ n, ∃ t, exec (.ldMN n) s = .next t ∧ t = { s with mem := t.mem, t := s.t + 10 } ∧ StoresByte s t s.regs.hl n) ∧
     (∀ x d r, ∃ t, exec (.ldXR x d r) s = .next t ∧ t = { s with mem := t.mem, memptr := s.ea x d, t := s.t + 19 } ∧
       StoresByte s t (s.ea x d) (s.regs.get8 r)) ∧
     (∀ x d n, ∃ t, exec (.ldXN x d n) s = .next t ∧ t = { s with mem := t.mem, memptr := s.ea x d, t := s.t + 19 } ∧
       StoresByte s t (s.ea x d) n) ∧
     (∃ t, exec .ldBcA s = .next t ∧ t = { s with mem := t.mem, memptr := wordOf s.regs.a (s.regs.c + 1), t := s.t + 7 } ∧
       StoresByte s t s.regs.bc s.regs.a) ∧
     (∃ t, exec .ldDeA s = .next t ∧ t = { s with mem := t.mem, memptr := wordOf s.regs.a (s.regs.e + 1), t := s.t + 7 } ∧
       StoresByte s t s.regs.de s.regs.a) ∧
     (∀ nn, ∃ t, exec (.ldMemA nn) s = .next t ∧
       t = { s with mem := t.mem, memptr := wordOf s.regs.a (loOf nn + 1), t := s.t + 13 } ∧ StoresByte s t nn s.regs.a)) ∧
  (∀ s : State, s.mem.wf = true →
     (∀ nn, ∃ t, exec (.ldMemHl nn) s = .next t ∧ t = { s with mem := t.mem, memptr := nn + 1, t := s.t + 16 } ∧
       StoresWord s t nn s.regs.hl) ∧
     (∀ dd nn, ∃ t, exec (.ldMemDd dd nn) s = .next t ∧ t = { s with mem := t.mem, memptr := nn + 1, t := s.t + 20 } ∧
       StoresWord s t nn (s.regs.getPair dd)) ∧
     (∀ x nn, ∃ t, exec (.ldMemIx x nn) s = .next t ∧ t = { s with mem := t.mem, memptr := nn + 1, t := s.t + 20 } ∧
       StoresWord s t nn (s.regs.getIdx x)))

/-- LD A,I and LD A,R set S, Z, F5 and F3 from the value, clear H and N, copy IFF2 to P/V and keep C; LD I,A and LD R,A write
all 8 bits and no flag (R214 to R217). R is already advanced by the fetch. -/
def Obligations.LoadsOfTheInterruptAndRefreshRegisters : Prop :=
  ∀ s : State,
    (∃ t, exec .ldAI s = .next t ∧ t = { s with regs := { s.regs with a := s.i, f := t.regs.f }, t := s.t + 9 } ∧
      FlagsAre t.regs.f (s.i.getLsbD 7) (s.i == 0) (s.i.getLsbD 5) false (s.i.getLsbD 3) s.iff2 false (flagC s.regs.f)) ∧
    (∃ t, exec .ldAR s = .next t ∧ t = { s with regs := { s.regs with a := s.r, f := t.regs.f }, t := s.t + 9 } ∧
      FlagsAre t.regs.f (s.r.getLsbD 7) (s.r == 0) (s.r.getLsbD 5) false (s.r.getLsbD 3) s.iff2 false (flagC s.regs.f)) ∧
    exec .ldIA s = .next { s with i := s.regs.a, t := s.t + 9 } ∧
    exec .ldRA s = .next { s with r := s.regs.a, t := s.t + 9 }

/-- The 16-bit loads into registers: R220 to R224, R228, R229. A word in memory has its low byte first (R81). -/
def Obligations.LoadsOfWords : Prop :=
  ∀ s : State,
    (∀ dd nn, exec (.ldDdNn dd nn) s = .next { s with regs := s.regs.setPair dd nn, t := s.t + 10 }) ∧
    (∀ x nn, exec (.ldIxNn x nn) s = .next { s with regs := s.regs.setIdx x nn, t := s.t + 14 }) ∧
    (∀ nn, exec (.ldHlMem nn) s =
      .next { s with regs := { s.regs with l := s.read nn, h := s.read (nn + 1) }, memptr := nn + 1, t := s.t + 16 }) ∧
    (∀ dd nn, exec (.ldDdMem dd nn) s =
      .next { s with regs := s.regs.setPair dd (wordOf (s.read (nn + 1)) (s.read nn)), memptr := nn + 1, t := s.t + 20 }) ∧
    (∀ x nn, exec (.ldIxMem x nn) s =
      .next { s with regs := s.regs.setIdx x (wordOf (s.read (nn + 1)) (s.read nn)), memptr := nn + 1, t := s.t + 20 }) ∧
    exec .ldSpHl s = .next { s with regs := { s.regs with sp := s.regs.hl }, t := s.t + 6 } ∧
    (∀ x, exec (.ldSpIx x) s = .next { s with regs := { s.regs with sp := s.regs.getIdx x }, t := s.t + 10 })

/-- PUSH stores the pair below SP, the low byte lower, and SP goes down by 2; POP reads the pair from SP, and SP goes up by 2; POP AF
writes all of F (R230 to R233, R12). A pair pushed into writable memory and popped into any pair arrives whole, SP as before. -/
def Obligations.PushAndPopMoveAWord : Prop :=
  (∀ s : State, s.mem.wf = true →
     (∀ qq, ∃ t, exec (.pushQq qq) s = .next t ∧
       t = { s with regs := { s.regs with sp := s.regs.sp - 2 }, mem := t.mem, t := s.t + 11 } ∧
       StoresWord s t (s.regs.sp - 2) (s.regs.getPairQ qq)) ∧
     (∀ x, ∃ t, exec (.pushIx x) s = .next t ∧
       t = { s with regs := { s.regs with sp := s.regs.sp - 2 }, mem := t.mem, t := s.t + 15 } ∧
       StoresWord s t (s.regs.sp - 2) (s.regs.getIdx x)) ∧
     (∀ qq, exec (.popQq qq) s = .next { s with
       regs := { s.regs.setPairQ qq (wordOf (s.read (s.regs.sp + 1)) (s.read s.regs.sp)) with sp := s.regs.sp + 2 }
       t := s.t + 10 }) ∧
     (∀ x, exec (.popIx x) s = .next { s with
       regs := { s.regs.setIdx x (wordOf (s.read (s.regs.sp + 1)) (s.read s.regs.sp)) with sp := s.regs.sp + 2 }
       t := s.t + 14 })) ∧
  (∀ (s : State) (p q : PairQ), s.mem.wf = true →
     s.params.romLimit ≤ (s.regs.sp - 1).toNat → s.params.romLimit ≤ (s.regs.sp - 2).toNat →
     ∃ t u, exec (.pushQq p) s = .next t ∧ exec (.popQq q) t = .next u ∧
       u.regs = s.regs.setPairQ q (s.regs.getPairQ p))

/-- The exchanges between registers swap values: R234, R235, R236. EX (SP),HL and EX (SP),XY swap the register with the word at SP;
SP stays and MEMPTR is the word read (R237, R238). -/
def Obligations.ExchangesSwap : Prop :=
  (∀ s : State,
     exec .exDeHl s =
       .next { s with regs := { s.regs with d := s.regs.h, e := s.regs.l, h := s.regs.d, l := s.regs.e }, t := s.t + 4 } ∧
     exec .exAfAf s = .next { s with
       regs := { s.regs with a := s.shadow.a, f := s.shadow.f }
       shadow := { s.shadow with a := s.regs.a, f := s.regs.f }
       t := s.t + 4 } ∧
     exec .exx s = .next { s with
       regs := { s.regs with b := s.shadow.b, c := s.shadow.c, d := s.shadow.d, e := s.shadow.e, h := s.shadow.h,
                             l := s.shadow.l }
       shadow := { s.shadow with b := s.regs.b, c := s.regs.c, d := s.regs.d, e := s.regs.e, h := s.regs.h, l := s.regs.l }
       t := s.t + 4 }) ∧
  (∀ s : State, s.mem.wf = true →
     (∃ t, exec .exSpHl s = .next t ∧
       t = { s with
         regs := { s.regs with h := s.read (s.regs.sp + 1), l := s.read s.regs.sp }
         memptr := wordOf (s.read (s.regs.sp + 1)) (s.read s.regs.sp), mem := t.mem, t := s.t + 19 } ∧
       StoresWord s t s.regs.sp s.regs.hl) ∧
     (∀ x, ∃ t, exec (.exSpIx x) s = .next t ∧
       t = { s with
         regs := s.regs.setIdx x (wordOf (s.read (s.regs.sp + 1)) (s.read s.regs.sp))
         memptr := wordOf (s.read (s.regs.sp + 1)) (s.read s.regs.sp), mem := t.mem, t := s.t + 23 } ∧
       StoresWord s t s.regs.sp (s.regs.getIdx x)))

/-! ## Block transfer and search -/

/-- LDI, LDD, LDIR and LDDR (R239 to R242): one byte moves from HL to DE, HL and DE step up or down, BC counts down, and P/V
says whether BC is not 0. The repeating forms go back to their own address while BC is not 0. -/
def Obligations.BlockTransfersMoveOneByteAStep : Prop :=
  ∀ (s : State), s.mem.wf = true →
    ∀ p ∈ [(Instr.ldi, (1 : Word), false), (.ldd, -1, false), (.ldir, 1, true), (.lddr, -1, true)],
      let v := s.read s.regs.hl
      let bc := s.regs.bc - 1
      ∃ t, exec p.1 s = .next t ∧
        t = afterIteration s
          { s with
            regs := { ((s.regs.setHl (s.regs.hl + p.2.1)).setDe (s.regs.de + p.2.1)).setBc bc with f := t.regs.f }
            mem := t.mem }
          (p.2.2 && bc != 0) ∧
        StoresByte s t s.regs.de v ∧
        FlagsAre t.regs.f (flagS s.regs.f) (flagZ s.regs.f) ((v + s.regs.a).getLsbD 1) false ((v + s.regs.a).getLsbD 3)
          (bc != 0) false (flagC s.regs.f)

/-- CPI, CPD, CPIR and CPDR (R243 to R246): A is compared with the byte at HL, HL and MEMPTR step up or down, BC counts down.
The repeating forms go back to their own address while BC is not 0 and the byte did not match. -/
def Obligations.BlockSearchesCompareOneByteAStep : Prop :=
  ∀ (s : State),
    ∀ p ∈ [(Instr.cpi, (1 : Word), false), (.cpd, -1, false), (.cpir, 1, true), (.cpdr, -1, true)],
      let v := s.read s.regs.hl
      let bc := s.regs.bc - 1
      let h := decide (s.regs.a.toNat % 16 < v.toNat % 16)
      let n := s.regs.a - v - (if h then 1 else 0)
      ∃ t, exec p.1 s = .next t ∧
        t = afterIteration s
          { s with
            regs := { (s.regs.setHl (s.regs.hl + p.2.1)).setBc bc with f := t.regs.f }
            memptr := s.memptr + p.2.1 }
          (p.2.2 && bc != 0 && s.regs.a != v) ∧
        FlagsAre t.regs.f ((s.regs.a - v).getLsbD 7) (s.regs.a == v) (n.getLsbD 1) h (n.getLsbD 3) (bc != 0) true
          (flagC s.regs.f)

/-! ## Arithmetic and logic -/

/-- The five operand forms of the eight 8-bit operations (R250, R253 to R260): the operand, where A and F go, MEMPTR and the
cost. -/
def Obligations.AluOperandForms : Prop :=
  ∀ (op : AluOp) (s : State),
    let result (v : Byte) : Regs := { s.regs with a := (alu op s.regs.a v s.regs.f).1, f := (alu op s.regs.a v s.regs.f).2 }
    (∀ r, exec (aluR op r) s = .next { s with regs := result (s.regs.get8 r), t := s.t + 4 }) ∧
    exec (aluM op) s = .next { s with regs := result (s.read s.regs.hl), t := s.t + 7 } ∧
    (∀ n, exec (aluN op n) s = .next { s with regs := result n, t := s.t + 7 }) ∧
    (∀ x h, exec (aluH op x h) s = .next { s with regs := result (s.regs.getHalf x h), t := s.t + 8 }) ∧
    (∀ x d, exec (aluX op x d) s =
      .next { s with regs := result (s.read (s.ea x d)), memptr := s.ea x d, t := s.t + 19 })

/-- ADD and ADC (R251, R253, R254): the sum modulo 256 with the eight flags, P/V being signed overflow. -/
def Obligations.AddAndAdcResultsAndFlags : Prop :=
  ∀ (a v f : Byte), ∀ p ∈ [(AluOp.add, false), (AluOp.adc, flagC f)],
    let c := p.2.toNat
    let res := (alu p.1 a v f).1
    res.toNat = (a.toNat + v.toNat + c) % 256 ∧
    FlagsAre (alu p.1 a v f).2 (res.getLsbD 7) (res == 0) (res.getLsbD 5)
      (decide (a.toNat % 16 + v.toNat % 16 + c > 15)) (res.getLsbD 3)
      (a.getLsbD 7 == v.getLsbD 7 && res.getLsbD 7 != a.getLsbD 7) false (decide (a.toNat + v.toNat + c > 255)) ∧
    (flagPV (alu p.1 a v f).2 = true ↔ a.toInt + v.toInt + c < -128 ∨ 127 < a.toInt + v.toInt + c)

/-- SUB and SBC (R252, R255, R256), and CP, which keeps A and takes F5 and F3 from the operand (R260). -/
def Obligations.SubSbcAndCpResultsAndFlags : Prop :=
  ∀ (a v f : Byte),
    (∀ p ∈ [(AluOp.sub, false), (AluOp.sbc, flagC f)],
      let c := p.2.toNat
      let res := (alu p.1 a v f).1
      (res.toNat : Int) = ((a.toNat : Int) - v.toNat - c) % 256 ∧
      FlagsAre (alu p.1 a v f).2 (res.getLsbD 7) (res == 0) (res.getLsbD 5) (decide (a.toNat % 16 < v.toNat % 16 + c))
        (res.getLsbD 3) (a.getLsbD 7 != v.getLsbD 7 && res.getLsbD 7 != a.getLsbD 7) true
        (decide (a.toNat < v.toNat + c)) ∧
      (flagPV (alu p.1 a v f).2 = true ↔ a.toInt - v.toInt - c < -128 ∨ 127 < a.toInt - v.toInt - c)) ∧
    (alu .cp a v f).1 = a ∧
    FlagsAre (alu .cp a v f).2 ((a - v).getLsbD 7) (a == v) (v.getLsbD 5) (decide (a.toNat % 16 < v.toNat % 16))
      (v.getLsbD 3) (a.getLsbD 7 != v.getLsbD 7 && (a - v).getLsbD 7 != a.getLsbD 7) true (decide (a.toNat < v.toNat))

/-- AND, XOR and OR (R257, R258, R259): P/V is 1 for an even number of 1 bits (R11), H is 1 for AND only. -/
def Obligations.LogicResultsAndFlags : Prop :=
  ∀ (a v f : Byte), ∀ p ∈ [(AluOp.and, a &&& v, true), (.xor, a ^^^ v, false), (.or, a ||| v, false)],
    (alu p.1 a v f).1 = p.2.1 ∧
    FlagsAre (alu p.1 a v f).2 (p.2.1.getLsbD 7) (p.2.1 == 0) (p.2.1.getLsbD 5) p.2.2 (p.2.1.getLsbD 3)
      (decide (ones p.2.1 % 2 = 0)) false false

/-- INC and DEC of a byte, every form (R261 to R266): the value by one, C kept. -/
def Obligations.IncrementsAndDecrementsOfBytes : Prop :=
  ∀ s : State, s.mem.wf = true →
    let incFlags (v f : Byte) : Prop :=
      FlagsAre f ((v + 1).getLsbD 7) (v + 1 == 0) ((v + 1).getLsbD 5) (decide (v.toNat % 16 = 15)) ((v + 1).getLsbD 3)
        (v == 0x7F) false (flagC s.regs.f)
    let decFlags (v f : Byte) : Prop :=
      FlagsAre f ((v - 1).getLsbD 7) (v - 1 == 0) ((v - 1).getLsbD 5) (decide (v.toNat % 16 = 0)) ((v - 1).getLsbD 3)
        (v == 0x80) true (flagC s.regs.f)
    (∀ r, ∃ t, exec (.incR r) s = .next t ∧
      t = { s with regs := { s.regs.set8 r (s.regs.get8 r + 1) with f := t.regs.f }, t := s.t + 4 } ∧
      incFlags (s.regs.get8 r) t.regs.f) ∧
    (∀ r, ∃ t, exec (.decR r) s = .next t ∧
      t = { s with regs := { s.regs.set8 r (s.regs.get8 r - 1) with f := t.regs.f }, t := s.t + 4 } ∧
      decFlags (s.regs.get8 r) t.regs.f) ∧
    (∀ x h, ∃ t, exec (.incHalf x h) s = .next t ∧
      t = { s with regs := { s.regs.setHalf x h (s.regs.getHalf x h + 1) with f := t.regs.f }, t := s.t + 8 } ∧
      incFlags (s.regs.getHalf x h) t.regs.f) ∧
    (∀ x h, ∃ t, exec (.decHalf x h) s = .next t ∧
      t = { s with regs := { s.regs.setHalf x h (s.regs.getHalf x h - 1) with f := t.regs.f }, t := s.t + 8 } ∧
      decFlags (s.regs.getHalf x h) t.regs.f) ∧
    (∃ t, exec .incM s = .next t ∧ t = { s with regs := { s.regs with f := t.regs.f }, mem := t.mem, t := s.t + 11 } ∧
      StoresByte s t s.regs.hl (s.read s.regs.hl + 1) ∧ incFlags (s.read s.regs.hl) t.regs.f) ∧
    (∃ t, exec .decM s = .next t ∧ t = { s with regs := { s.regs with f := t.regs.f }, mem := t.mem, t := s.t + 11 } ∧
      StoresByte s t s.regs.hl (s.read s.regs.hl - 1) ∧ decFlags (s.read s.regs.hl) t.regs.f) ∧
    (∀ x d, ∃ t, exec (.incX x d) s = .next t ∧
      t = { s with regs := { s.regs with f := t.regs.f }, mem := t.mem, memptr := s.ea x d, t := s.t + 23 } ∧
      StoresByte s t (s.ea x d) (s.read (s.ea x d) + 1) ∧ incFlags (s.read (s.ea x d)) t.regs.f) ∧
    (∀ x d, ∃ t, exec (.decX x d) s = .next t ∧
      t = { s with regs := { s.regs with f := t.regs.f }, mem := t.mem, memptr := s.ea x d, t := s.t + 23 } ∧
      StoresByte s t (s.ea x d) (s.read (s.ea x d) - 1) ∧ decFlags (s.read (s.ea x d)) t.regs.f)

/-- DAA (R267): the correction is 6 for the low digit and 0x60 for the high digit, added or, after a subtraction, subtracted. So ADC
then DAA adds two-digit decimal numbers and SBC then DAA subtracts them, the decimal carry or borrow in C (R254, R256). -/
def Obligations.DaaCorrectsToDecimal : Prop :=
  (∀ s : State,
     let a := s.regs.a
     let f := s.regs.f
     let low := flagH f = true ∨ a.toNat % 16 > 9
     let high := flagC f = true ∨ a.toNat > 0x99
     let corr : Int := (if low then 6 else 0) + (if high then 0x60 else 0)
     ∃ t, exec .daa s = .next t ∧
       t = { s with regs := { s.regs with a := t.regs.a, f := t.regs.f }, t := s.t + 4 } ∧
       (t.regs.a.toNat : Int) = (if flagN f then (a.toNat : Int) - corr else a.toNat + corr) % 256 ∧
       FlagsAre t.regs.f (t.regs.a.getLsbD 7) (t.regs.a == 0) (t.regs.a.getLsbD 5)
         (if flagN f then flagH f && decide (a.toNat % 16 < 6) else decide (a.toNat % 16 > 9)) (t.regs.a.getLsbD 3)
         (decide (ones t.regs.a % 2 = 0)) (flagN f) (decide high)) ∧
  (∀ (x y : Nat) (f : Byte), x < 100 → y < 100 →
     let bcd (n : Nat) : Byte := BitVec.ofNat 8 (n / 10 * 16 + n % 10)
     let c := (flagC f).toNat
     let sum := alu .adc (bcd x) (bcd y) f
     let diff := alu .sbc (bcd x) (bcd y) f
     (daa sum.1 sum.2).1 = bcd ((x + y + c) % 100) ∧ (flagC (daa sum.1 sum.2).2 = true ↔ 100 ≤ x + y + c) ∧
     (daa diff.1 diff.2).1 = bcd ((x + 200 - y - c) % 100) ∧ (flagC (daa diff.1 diff.2).2 = true ↔ x < y + c))

/-- CPL, NEG (for every y), CCF and SCF: R268 to R271. -/
def Obligations.AccumulatorAndCarryOperations : Prop :=
  ∀ s : State,
    let a := s.regs.a
    let f := s.regs.f
    (∃ t, exec .cpl s = .next t ∧ t = { s with regs := { s.regs with a := a ^^^ 0xFF, f := t.regs.f }, t := s.t + 4 } ∧
      FlagsAre t.regs.f (flagS f) (flagZ f) ((a ^^^ 0xFF).getLsbD 5) true ((a ^^^ 0xFF).getLsbD 3) (flagPV f) true
        (flagC f)) ∧
    (∀ y, ∃ t, exec (.neg y) s = .next t ∧ t = { s with regs := { s.regs with a := -a, f := t.regs.f }, t := s.t + 8 } ∧
      FlagsAre t.regs.f ((-a).getLsbD 7) (a == 0) ((-a).getLsbD 5) (decide (a.toNat % 16 ≠ 0)) ((-a).getLsbD 3)
        (a == 0x80) true (a != 0)) ∧
    (∃ t, exec .ccf s = .next t ∧ t = { s with regs := { s.regs with f := t.regs.f }, t := s.t + 4 } ∧
      FlagsAre t.regs.f (flagS f) (flagZ f) (a.getLsbD 5) (flagC f) (a.getLsbD 3) (flagPV f) false (!flagC f)) ∧
    (∃ t, exec .scf s = .next t ∧ t = { s with regs := { s.regs with f := t.regs.f }, t := s.t + 4 } ∧
      FlagsAre t.regs.f (flagS f) (flagZ f) (a.getLsbD 5) false (a.getLsbD 3) (flagPV f) false true)

/-- ADD HL,ss and ADD XY,pp (R272, R275): S, Z and P/V are kept; MEMPTR is the old register plus 1. INC and DEC of a pair or index
register set no flag and wrap (R276 to R279). -/
def Obligations.AddsAndCountsOfWords : Prop :=
  (∀ s : State,
     let f := s.regs.f
     let addFlags (x y res : Word) (g : Byte) : Prop :=
       FlagsAre g (flagS f) (flagZ f) (res.getLsbD 13) (decide (x.toNat % 4096 + y.toNat % 4096 > 0xFFF)) (res.getLsbD 11)
         (flagPV f) false (decide (x.toNat + y.toNat > 0xFFFF))
     (∀ ss, ∃ t, exec (.addHlSs ss) s = .next t ∧
       t = { s with regs := { s.regs.setHl (s.regs.hl + s.regs.getPair ss) with f := t.regs.f }
                    memptr := s.regs.hl + 1, t := s.t + 11 } ∧
       addFlags s.regs.hl (s.regs.getPair ss) (s.regs.hl + s.regs.getPair ss) t.regs.f) ∧
     (∀ x pp, ∃ t, exec (.addIxPp x pp) s = .next t ∧
       t = { s with regs := { s.regs.setIdx x (s.regs.getIdx x + s.regs.getPairX x pp) with f := t.regs.f }
                    memptr := s.regs.getIdx x + 1, t := s.t + 15 } ∧
       addFlags (s.regs.getIdx x) (s.regs.getPairX x pp) (s.regs.getIdx x + s.regs.getPairX x pp) t.regs.f)) ∧
  (∀ s : State,
     (∀ ss, exec (.incSs ss) s = .next { s with regs := s.regs.setPair ss (s.regs.getPair ss + 1), t := s.t + 6 }) ∧
     (∀ ss, exec (.decSs ss) s = .next { s with regs := s.regs.setPair ss (s.regs.getPair ss - 1), t := s.t + 6 }) ∧
     (∀ x, exec (.incIx x) s = .next { s with regs := s.regs.setIdx x (s.regs.getIdx x + 1), t := s.t + 10 }) ∧
     (∀ x, exec (.decIx x) s = .next { s with regs := s.regs.setIdx x (s.regs.getIdx x - 1), t := s.t + 10 }))

/-- ADC HL,ss and SBC HL,ss (R273, R274): all eight flags, P/V being signed overflow of the 16-bit operation. -/
def Obligations.AdcAndSbcOfWords : Prop :=
  ∀ (s : State) (ss : Pair),
    let x := s.regs.hl
    let y := s.regs.getPair ss
    let c := (flagC s.regs.f).toNat
    (∃ t, exec (.adcHlSs ss) s = .next t ∧
      t = { s with regs := { s.regs with h := t.regs.h, l := t.regs.l, f := t.regs.f }, memptr := x + 1, t := s.t + 15 } ∧
      t.regs.hl.toNat = (x.toNat + y.toNat + c) % 65536 ∧
      FlagsAre t.regs.f (t.regs.hl.getLsbD 15) (t.regs.hl == 0) (t.regs.hl.getLsbD 13)
        (decide (x.toNat % 4096 + y.toNat % 4096 + c > 0xFFF)) (t.regs.hl.getLsbD 11)
        (decide (x.toInt + y.toInt + c < -32768 ∨ 32767 < x.toInt + y.toInt + c)) false
        (decide (x.toNat + y.toNat + c > 0xFFFF))) ∧
    (∃ t, exec (.sbcHlSs ss) s = .next t ∧
      t = { s with regs := { s.regs with h := t.regs.h, l := t.regs.l, f := t.regs.f }, memptr := x + 1, t := s.t + 15 } ∧
      (t.regs.hl.toNat : Int) = ((x.toNat : Int) - y.toNat - c) % 65536 ∧
      FlagsAre t.regs.f (t.regs.hl.getLsbD 15) (t.regs.hl == 0) (t.regs.hl.getLsbD 13)
        (decide (x.toNat % 4096 < y.toNat % 4096 + c)) (t.regs.hl.getLsbD 11)
        (decide (x.toInt - y.toInt - c < -32768 ∨ 32767 < x.toInt - y.toInt - c)) true
        (decide (x.toNat < y.toNat + c)))

/-! ## Rotates, shifts and bits -/

/-- The result byte and the carry out of each shift and rotate, as numbers (R304). -/
def Obligations.ShiftResultsAndFlags : Prop :=
  ∀ (v f : Byte),
    let n := v.toNat
    let c := (flagC f).toNat
    ∀ p ∈ [(RotOp.rlc, n * 2 % 256 + n / 128, v.getLsbD 7), (.rrc, n / 2 + n % 2 * 128, v.getLsbD 0),
           (.rl, n * 2 % 256 + c, v.getLsbD 7), (.rr, n / 2 + c * 128, v.getLsbD 0),
           (.sla, n * 2 % 256, v.getLsbD 7), (.sra, n / 2 + n / 128 * 128, v.getLsbD 0),
           (.sll, n * 2 % 256 + 1, v.getLsbD 7), (.srl, n / 2, v.getLsbD 0)],
      let res := (rot p.1 v f).1
      res.toNat = p.2.1 ∧
      FlagsAre (rot p.1 v f).2 (res.getLsbD 7) (res == 0) (res.getLsbD 5) false (res.getLsbD 3)
        (decide (ones res % 2 = 0)) false p.2.2

/-- The four operand forms of the eight shifts and rotates (R304 to R312); the register copy is made even where the store is
ignored. -/
def Obligations.ShiftOperandForms : Prop :=
  ∀ (op : RotOp) (s : State), s.mem.wf = true →
    let res (v : Byte) : Byte := (rot op v s.regs.f).1
    let flags (v : Byte) : Byte := (rot op v s.regs.f).2
    (∀ r, exec (rotR op r) s = .next { s with
      regs := { s.regs.set8 r (res (s.regs.get8 r)) with f := flags (s.regs.get8 r) }, t := s.t + 8 }) ∧
    (∃ t, exec (rotM op) s = .next t ∧
      t = { s with regs := { s.regs with f := flags (s.read s.regs.hl) }, mem := t.mem, t := s.t + 15 } ∧
      StoresByte s t s.regs.hl (res (s.read s.regs.hl))) ∧
    (∀ x d, ∃ t, exec (rotX op x d) s = .next t ∧
      t = { s with regs := { s.regs with f := flags (s.read (s.ea x d)) }, mem := t.mem, memptr := s.ea x d, t := s.t + 23 } ∧
      StoresByte s t (s.ea x d) (res (s.read (s.ea x d)))) ∧
    (∀ x d r, ∃ t, exec (rotXR op x d r) s = .next t ∧
      t = { s with
        regs := { s.regs.set8 r (res (s.read (s.ea x d))) with f := flags (s.read (s.ea x d)) }
        mem := t.mem, memptr := s.ea x d, t := s.t + 23 } ∧
      StoresByte s t (s.ea x d) (res (s.read (s.ea x d))))

/-- RLCA, RRCA, RLA and RRA (R300 to R303): S, Z and P/V are kept. RLD and RRD (R313, R314): the three low digits of A and the byte
at HL turn by one digit; C is kept. -/
def Obligations.AccumulatorAndDigitRotates : Prop :=
  (∀ s : State,
     let n := s.regs.a.toNat
     let f := s.regs.f
     let c := (flagC f).toNat
     ∀ p ∈ [(Instr.rlca, n * 2 % 256 + n / 128, s.regs.a.getLsbD 7), (.rrca, n / 2 + n % 2 * 128, s.regs.a.getLsbD 0),
            (.rla, n * 2 % 256 + c, s.regs.a.getLsbD 7), (.rra, n / 2 + c * 128, s.regs.a.getLsbD 0)],
       ∃ t, exec p.1 s = .next t ∧
         t = { s with regs := { s.regs with a := BitVec.ofNat 8 p.2.1, f := t.regs.f }, t := s.t + 4 } ∧
         FlagsAre t.regs.f (flagS f) (flagZ f) (t.regs.a.getLsbD 5) false (t.regs.a.getLsbD 3) (flagPV f) false p.2.2) ∧
  (∀ s : State, s.mem.wf = true →
     let a := s.regs.a.toNat
     let m := (s.read s.regs.hl).toNat
     ∀ p ∈ [(Instr.rld, a / 16 * 16 + m / 16, m % 16 * 16 + a % 16), (.rrd, a / 16 * 16 + m % 16, a % 16 * 16 + m / 16)],
       ∃ t, exec p.1 s = .next t ∧
         t = { s with
           regs := { s.regs with a := BitVec.ofNat 8 p.2.1, f := t.regs.f }
           mem := t.mem, memptr := s.regs.hl + 1, t := s.t + 18 } ∧
         StoresByte s t s.regs.hl (BitVec.ofNat 8 p.2.2) ∧
         FlagsAre t.regs.f (t.regs.a.getLsbD 7) (t.regs.a == 0) (t.regs.a.getLsbD 5) false (t.regs.a.getLsbD 3)
           (decide (ones t.regs.a % 2 = 0)) false (flagC s.regs.f))

/-- BIT b of a register, of (HL) and of (XY+d), every z (R315, R316, R317): only F is written (and MEMPTR by the last); F5 and F3 come
from the register, from MEMPTR's high byte, or from the high byte of the address. SET and RES, every form (R318 to R323): one bit of
the operand changes, no flag does. -/
def Obligations.BitInstructions : Prop :=
  (∀ (s : State) (b : BitVec 3),
     let bitFlags (v src f : Byte) : Prop :=
       FlagsAre f (b == 7 && v.getLsbD 7) (!v.getLsbD b.toNat) (src.getLsbD 5) true (src.getLsbD 3) (!v.getLsbD b.toNat) false
         (flagC s.regs.f)
     (∀ r, ∃ t, exec (.bitR b r) s = .next t ∧ t = { s with regs := { s.regs with f := t.regs.f }, t := s.t + 8 } ∧
       bitFlags (s.regs.get8 r) (s.regs.get8 r) t.regs.f) ∧
     (∃ t, exec (.bitM b) s = .next t ∧ t = { s with regs := { s.regs with f := t.regs.f }, t := s.t + 12 } ∧
       bitFlags (s.read s.regs.hl) (hiOf s.memptr) t.regs.f) ∧
     (∀ x d z, ∃ t, exec (.bitX x d b z) s = .next t ∧
       t = { s with regs := { s.regs with f := t.regs.f }, memptr := s.ea x d, t := s.t + 20 } ∧
       bitFlags (s.read (s.ea x d)) (hiOf (s.ea x d)) t.regs.f)) ∧
  ((∀ (b k : BitVec 3) (v : Byte),
     (setBit b v).getLsbD k.toNat = (k == b || v.getLsbD k.toNat) ∧
     (resBit b v).getLsbD k.toNat = (k != b && v.getLsbD k.toNat)) ∧
   ∀ (s : State) (b : BitVec 3), s.mem.wf = true →
     (∀ r, exec (.setR b r) s = .next { s with regs := s.regs.set8 r (setBit b (s.regs.get8 r)), t := s.t + 8 }) ∧
     (∀ r, exec (.resR b r) s = .next { s with regs := s.regs.set8 r (resBit b (s.regs.get8 r)), t := s.t + 8 }) ∧
     (∃ t, exec (.setM b) s = .next t ∧ t = { s with mem := t.mem, t := s.t + 15 } ∧
       StoresByte s t s.regs.hl (setBit b (s.read s.regs.hl))) ∧
     (∃ t, exec (.resM b) s = .next t ∧ t = { s with mem := t.mem, t := s.t + 15 } ∧
       StoresByte s t s.regs.hl (resBit b (s.read s.regs.hl))) ∧
     (∀ x d, ∃ t, exec (.setX x d b) s = .next t ∧ t = { s with mem := t.mem, memptr := s.ea x d, t := s.t + 23 } ∧
       StoresByte s t (s.ea x d) (setBit b (s.read (s.ea x d)))) ∧
     (∀ x d, ∃ t, exec (.resX x d b) s = .next t ∧ t = { s with mem := t.mem, memptr := s.ea x d, t := s.t + 23 } ∧
       StoresByte s t (s.ea x d) (resBit b (s.read (s.ea x d)))) ∧
     (∀ x d r, ∃ t, exec (.setXR x d b r) s = .next t ∧
       t = { s with regs := s.regs.set8 r (setBit b (s.read (s.ea x d))), mem := t.mem, memptr := s.ea x d, t := s.t + 23 } ∧
       StoresByte s t (s.ea x d) (setBit b (s.read (s.ea x d)))) ∧
     (∀ x d r, ∃ t, exec (.resXR x d b r) s = .next t ∧
       t = { s with regs := s.regs.set8 r (resBit b (s.read (s.ea x d))), mem := t.mem, memptr := s.ea x d, t := s.t + 23 } ∧
       StoresByte s t (s.ea x d) (resBit b (s.read (s.ea x d)))))

/-! ## Control -/

/-- The conditions read the flags R49 names. The jumps (R340 to R346): where PC and MEMPTR go and what each path costs. JP cc sets
MEMPTR either way, JR cc and DJNZ only when taken, JP (HL) and JP (XY) never. -/
def Obligations.JumpsSetPc : Prop :=
  (∀ f : Byte,
     condHolds .nz f = !f.getLsbD 6 ∧ condHolds .z f = f.getLsbD 6 ∧ condHolds .nc f = !f.getLsbD 0 ∧
     condHolds .c f = f.getLsbD 0 ∧ condHolds .po f = !f.getLsbD 2 ∧ condHolds .pe f = f.getLsbD 2 ∧
     condHolds .p f = !f.getLsbD 7 ∧ condHolds .m f = f.getLsbD 7) ∧
  (∀ s : State,
     (∀ nn, exec (.jpNn nn) s = .next { s with pc := nn, memptr := nn, t := s.t + 10 }) ∧
     (∀ cc nn, exec (.jpCcNn cc nn) s =
       .next { s with pc := if condHolds cc s.regs.f then nn else s.pc, memptr := nn, t := s.t + 10 }) ∧
     (∀ e, exec (.jr e) s = .next { s with pc := s.relTarget e, memptr := s.relTarget e, t := s.t + 12 }) ∧
     (∀ cc e, exec (.jrCc cc e) s =
       .next (if condHolds cc s.regs.f then { s with pc := s.relTarget e, memptr := s.relTarget e, t := s.t + 12 }
         else { s with t := s.t + 7 })) ∧
     exec .jpHl s = .next { s with pc := s.regs.hl, t := s.t + 4 } ∧
     (∀ x, exec (.jpIx x) s = .next { s with pc := s.regs.getIdx x, t := s.t + 8 }) ∧
     (∀ e, exec (.djnz e) s =
       .next (if s.regs.b = 1 then { s with regs := { s.regs with b := 0 }, t := s.t + 8 }
         else { s with regs := { s.regs with b := s.regs.b - 1 }
                       pc := s.relTarget e, memptr := s.relTarget e, t := s.t + 13 })))

/-- CALL, CALL cc and RST push the address of the next instruction and jump (R347, R348, R353); a CALL cc not taken only sets
MEMPTR. -/
def Obligations.CallsPushTheReturnAddress : Prop :=
  ∀ s : State, s.mem.wf = true →
    (∀ nn, ∃ t, exec (.callNn nn) s = .next t ∧
      t = { s with regs := { s.regs with sp := s.regs.sp - 2 }, mem := t.mem, pc := nn, memptr := nn, t := s.t + 17 } ∧
      StoresWord s t (s.regs.sp - 2) s.pc) ∧
    (∀ cc nn, condHolds cc s.regs.f = true → ∃ t, exec (.callCcNn cc nn) s = .next t ∧
      t = { s with regs := { s.regs with sp := s.regs.sp - 2 }, mem := t.mem, pc := nn, memptr := nn, t := s.t + 17 } ∧
      StoresWord s t (s.regs.sp - 2) s.pc) ∧
    (∀ cc nn, condHolds cc s.regs.f = false → exec (.callCcNn cc nn) s = .next { s with memptr := nn, t := s.t + 10 }) ∧
    (∀ p, ∃ t, exec (.rst p) s = .next t ∧
      t = { s with regs := { s.regs with sp := s.regs.sp - 2 }, mem := t.mem
                   pc := BitVec.ofNat 16 (p.toNat * 8), memptr := BitVec.ofNat 16 (p.toNat * 8), t := s.t + 11 } ∧
      StoresWord s t (s.regs.sp - 2) s.pc)

/-- RET, RET cc, RETI and RETN (R349 to R352) pop PC; RETI and RETN copy IFF2 to IFF1; no other register is restored. -/
def Obligations.ReturnsPopPc : Prop :=
  ∀ s : State,
    let target := wordOf (s.read (s.regs.sp + 1)) (s.read s.regs.sp)
    let popped : State := { s with regs := { s.regs with sp := s.regs.sp + 2 }, pc := target, memptr := target }
    exec .ret s = .next { popped with t := s.t + 10 } ∧
    (∀ cc, exec (.retCc cc) s =
      .next (if condHolds cc s.regs.f then { popped with t := s.t + 11 } else { s with t := s.t + 5 })) ∧
    exec .reti s = .next { popped with iff1 := s.iff2, t := s.t + 14 } ∧
    (∀ y, exec (.retn y) s = .next { popped with iff1 := s.iff2, t := s.t + 14 })

/-- NOP, HALT, DI, EI and IM (R354 to R360). An ignored prefix costs 4 T and blocks both interrupts at the next boundary (R361). An
undefined ED opcode is a no-op of 8 T, or fault E1 with the opcode's address and second byte where ED_UNDEFINED says so (R362). -/
def Obligations.CpuControlInstructions : Prop :=
  (∀ s : State,
     exec .nop s = .next { s with t := s.t + 4 } ∧
     exec .halt s = .next { s with pc := s.pc - 1, halted := true, t := s.t + 4 } ∧
     exec .di s = .next { s with iff1 := false, iff2 := false, t := s.t + 4 } ∧
     exec .ei s = .next { s with iff1 := true, iff2 := true, intBlocked := .afterEi, t := s.t + 4 } ∧
     (∀ y, exec (.im0 y) s = .next { s with im := .im0, t := s.t + 8 }) ∧
     (∀ y, exec (.im1 y) s = .next { s with im := .im1, t := s.t + 8 }) ∧
     (∀ y, exec (.im2 y) s = .next { s with im := .im2, t := s.t + 8 })) ∧
  (∀ s : State,
     (∀ x b, exec (.ignoredPrefix x b) s = .next { s with intBlocked := .afterPrefix, t := s.t + 4 }) ∧
     (s.params.edUndefined = .nop →
       (∀ y, exec (.nopEd1 y) s = .next { s with t := s.t + 8 }) ∧ (∀ x, exec (.nopEd0 x) s = .next { s with t := s.t + 8 }) ∧
       (∀ x, exec (.nopEd3 x) s = .next { s with t := s.t + 8 }) ∧
       (∀ y z, exec (.nopEd2 y z) s = .next { s with t := s.t + 8 })) ∧
     (s.params.edUndefined = .fault → ∀ i op, i.wellFormed = true → encode i = [0xED, op] →
       (∃ y, i = .nopEd1 y) ∨ (∃ x, i = .nopEd0 x) ∨ (∃ x, i = .nopEd3 x) ∨ (∃ y z, i = .nopEd2 y z) →
       exec i s = .fault (.undefinedOpcode (s.pc - 2) op)))

/-! ## Input and output -/

/-- IN A,(n), IN r,(C) and IN F,(C) (R382 to R384): the port's byte, its flags and MEMPTR. Outside the registers named only the
platform's inputs and the Tracer's side move on. The MEMPTR of IN B,(C) and IN C,(C) is the new BC plus 1, in the order of R383's
pseudocode (DEDUCED, log 37). -/
def Obligations.InputsReadOnePort : Prop :=
  ∀ s : State,
    let inFlags (v f : Byte) : Prop :=
      FlagsAre f (v.getLsbD 7) (v == 0) (v.getLsbD 5) false (v.getLsbD 3) (decide (ones v % 2 = 0)) false (flagC s.regs.f)
    (∀ n, ∃ t, exec (.inAN n) s = .next t ∧
      t = { s with regs := { s.regs with a := s.portByte (wordOf s.regs.a n) }
                   memptr := wordOf s.regs.a n + 1, env := t.env, trace := t.trace, t := s.t + 11 }) ∧
    (∀ r, ∃ t, exec (.inRC r) s = .next t ∧
      t = { s with regs := { s.regs.set8 r (s.portByte s.regs.bc) with f := t.regs.f }
                   memptr := (s.regs.set8 r (s.portByte s.regs.bc)).bc + 1, env := t.env, trace := t.trace, t := s.t + 12 } ∧
      inFlags (s.portByte s.regs.bc) t.regs.f) ∧
    (∃ t, exec .inFC s = .next t ∧
      t = { s with regs := { s.regs with f := t.regs.f }
                   memptr := s.regs.bc + 1, env := t.env, trace := t.trace, t := s.t + 12 } ∧
      inFlags (s.portByte s.regs.bc) t.regs.f)

/-- OUT (n),A, OUT (C),r and OUT (C),0 (R389 to R391): the Tracer is handed the port, the byte and T0 (R92); no register and no
flag changes. -/
def Obligations.OutputsWriteOnePort : Prop :=
  ∀ s : State,
    (∀ n, ∃ t, exec (.outNA n) s = .next t ∧
      t = { s with memptr := wordOf s.regs.a (n + 1), env := t.env, trace := t.trace, t := s.t + 11 } ∧
      t.trace.portWrites = ⟨wordOf s.regs.a n, s.regs.a, s.t⟩ :: s.trace.portWrites) ∧
    (∀ r, ∃ t, exec (.outCR r) s = .next t ∧
      t = { s with memptr := s.regs.bc + 1, env := t.env, trace := t.trace, t := s.t + 12 } ∧
      t.trace.portWrites = ⟨s.regs.bc, s.regs.get8 r, s.t⟩ :: s.trace.portWrites) ∧
    (∃ t, exec .outC0 s = .next t ∧
      t = { s with memptr := s.regs.bc + 1, env := t.env, trace := t.trace, t := s.t + 12 } ∧
      t.trace.portWrites = ⟨s.regs.bc, 0, s.t⟩ :: s.trace.portWrites)

/-- INI, IND, INIR and INDR (R385 to R388): the byte of port BC goes to HL; B counts down, HL steps, MEMPTR is BC stepped; the
repeating forms go back to their own address while B is not 0. -/
def Obligations.BlockInputsReadOnePortAStep : Prop :=
  ∀ (s : State), s.mem.wf = true →
    ∀ p ∈ [(Instr.ini, (1 : Word), (1 : Byte), false), (.ind, -1, -1, false), (.inir, 1, 1, true), (.indr, -1, -1, true)],
      let v := s.portByte s.regs.bc
      let b := s.regs.b - 1
      let k := v.toNat + (s.regs.c + p.2.2.1).toNat
      ∃ t, exec p.1 s = .next t ∧
        t = afterIteration s
          { s with
            regs := { s.regs.setHl (s.regs.hl + p.2.1) with b := b, f := t.regs.f }
            mem := t.mem, memptr := s.regs.bc + p.2.1, env := t.env, trace := t.trace }
          (p.2.2.2 && b != 0) ∧
        StoresByte s t s.regs.hl v ∧
        FlagsAre t.regs.f (b.getLsbD 7) (b == 0) (b.getLsbD 5) (decide (k > 255)) (b.getLsbD 3)
          (decide (ones (BitVec.ofNat 8 (k % 8) ^^^ b) % 2 = 0)) (v.getLsbD 7) (decide (k > 255))

/-- OUTI, OUTD, OTIR and OTDR (R392 to R395): B counts down first, the byte at HL goes to port BC as it then is; HL steps, MEMPTR
is that BC stepped; the repeating forms go back to their own address while B is not 0. -/
def Obligations.BlockOutputsWriteOnePortAStep : Prop :=
  ∀ (s : State),
    ∀ p ∈ [(Instr.outi, (1 : Word), false), (.outd, -1, false), (.otir, 1, true), (.otdr, -1, true)],
      let v := s.read s.regs.hl
      let b := s.regs.b - 1
      let port := wordOf b s.regs.c
      let k := v.toNat + (loOf (s.regs.hl + p.2.1)).toNat
      ∃ t, exec p.1 s = .next t ∧
        t = afterIteration s
          { s with
            regs := { s.regs.setHl (s.regs.hl + p.2.1) with b := b, f := t.regs.f }
            memptr := port + p.2.1, env := t.env, trace := t.trace }
          (p.2.2 && b != 0) ∧
        t.trace.portWrites = ⟨port, v, s.t⟩ :: s.trace.portWrites ∧
        FlagsAre t.regs.f (b.getLsbD 7) (b == 0) (b.getLsbD 5) (decide (k > 255)) (b.getLsbD 3)
          (decide (ones (BitVec.ofNat 8 (k % 8) ^^^ b) % 2 = 0)) (v.getLsbD 7) (decide (k > 255))

/-! ## The step -/

/-- Where no interrupt is accepted, no fast-load step is taken, the load does not stop and the core is not halted, a step runs the
instruction the bytes at PC decode to: exec from the state with PC past it, R advanced by its M1 count and INT_BLOCKED none, then
the record and the Tracer's call (R170, R171). So it is outside the tape-loading environment, inside it where no fast-load step is
taken, and always there with FAST_LOAD = false and no accelerator selected (R478). `nextBoundary` moves the platform's inputs on, the model's own bookkeeping (logs 5, 21). -/
def Obligations.AStepRunsTheDecodedInstruction : Prop :=
  ∀ (s : State) (i : Instr), s.runStatus = .running → s.halted = false → NoAcceptance s →
    (s.tape = none ∨ loadStopHolds s = false ∧
      (fastLoadStep s.nmiRequest s.nextBoundary = none ∨ s.params.fastLoad = false ∧ s.params.selection = .none)) →
    decode [s.read s.pc, s.read (s.pc + 1), s.read (s.pc + 2), s.read (s.pc + 3)] = .ok i →
    step s =
      match exec i { s.nextBoundary with
        pc := s.pc + BitVec.ofNat 16 i.length, r := (s.rInc i.m1).r, intBlocked := .none } with
      | .next u => .next (u.recorded { addr := s.pc, bytes := s.bytesAt s.pc i.length, cost := u.t - s.t })
      | .fault f => .fault f
      | .refused f => .refused f

/-- `Rinc(n)` counts R[6:0] modulo 128 and keeps R[7] (R37). The M1 count of an instruction is 1 for an unprefixed instruction or an
ignored prefix and 2 for a CB, ED, DD or FD form, the four-byte DD CB and FD CB forms included (R172). -/
def Obligations.RefreshCountsM1Fetches : Prop :=
  (∀ (s : State) (n : Nat), (s.rInc n).r.toNat = s.r.toNat / 128 * 128 + (s.r.toNat % 128 + n) % 128 ∧
     s.rInc n = { s with r := (s.rInc n).r }) ∧
  (∀ i : Instr, i.wellFormed = true →
     i.m1 = if (encode i).head? = some 0xCB ∨ (encode i).head? = some 0xED then 2
       else if (encode i).head? = some 0xDD ∨ (encode i).head? = some 0xFD then i.length.min 2
       else 1)

/-- The halted idle step (R177): 4 T, one R increment, the record of a HALT and the Tracer's call; PC stays, no memory is read,
and the run stops exactly where the Tracer answers stop (R176). In the tape-loading environment it is the step too, unless the load
stops there, and the Tracer's calls answer continue (log 26). The platform's inputs move on, the model's own bookkeeping (logs 5,
7, 21). -/
def Obligations.HaltedIdleStepOnlyCounts : Prop :=
  ∀ s : State, s.runStatus = .running → (s.tape = none ∨ loadStopHolds s = false) → s.halted = true → NoAcceptance s →
    let u : State := { s.nextBoundary with
      r := (s.rInc 1).r, intBlocked := .none, t := s.t + 4
      trace := { s.trace with record := some { addr := s.pc, bytes := [0x76], cost := 4 } } }
    let stop := s.trace.stopPending || (s.tape.isNone && s.env.tracer.holds u (Config.freeStop (s.env.boundary + 1) 1))
    step s = .next { u with
      runStatus := if stop then .stopped else .running
      env := { s.nextBoundary.env with tracer := if s.tape.isNone then s.env.tracer.asked else s.env.tracer }
      trace := { u.trace with stopPending := false } } ∧
    stepAccesses s = []

/-- The maskable acceptance (R512, R514): where an INT is requested, enabled and not blocked and no NMI is taken, the step clears
both flip-flops, leaves a halt, counts one M1, pushes the return address and goes to the mode's handler; in mode 0 a bus byte
that is no RST is fault E2. The hooks see the push, and in mode 2 the two reads of the vector. The model's own choices here:
the platform's inputs move on (logs 5, 21), and a hook call is a view of the state at the boundary (log 9). -/
def Obligations.MaskableInterruptEntry : Prop :=
  ∀ s : State, s.mem.wf = true → s.runStatus = .running → loadStopHolds s = false → s.nmiRequest = false →
    s.intRequest = true → s.iff1 = true → s.intBlocked = .none →
    let bus := s.params.intBusByte
    let back := if s.halted then s.pc + 1 else s.pc
    (s.im = .im0 → bus &&& 0xC7 ≠ 0xC7 → step s = .fault (.im0BusByte bus s.pc)) ∧
    ((s.im = .im0 → bus &&& 0xC7 = 0xC7) → ∃ t, step s = .next t ∧
      t = { s with
        regs := { s.regs with sp := s.regs.sp - 2 }
        iff1 := false, iff2 := false, halted := false, r := (s.rInc 1).r, intBlocked := .none
        pc := t.pc, memptr := t.pc, mem := t.mem, env := s.nextBoundary.env
        trace := { s.trace with record := none }
        t := s.t + (if s.im = .im2 then 19 else 13) } ∧
      StoresWord s t (s.regs.sp - 2) back ∧
      t.pc = match s.im with
        | .im0 => (bus &&& 0x38).setWidth 16
        | .im1 => 0x0038
        | .im2 => wordOf (t.read (wordOf s.i bus + 1)) (t.read (wordOf s.i bus))) ∧
    ((s.im = .im0 → bus &&& 0xC7 = 0xC7) →
      stepAccesses s = pushWrites s.regs.sp back ++ (if s.im = .im2 then wordRead (wordOf s.i bus) else []))

/-- The non-maskable acceptance (R515) comes first whatever else is requested (R516), whatever the flip-flops hold: it clears
IFF1, keeps IFF2, pushes the return address and goes to 0x0066 in 11 T. Only an ignored prefix delays it. The
hooks see the push. The model's own choices here: the platform's inputs move on (logs 5, 21), and a hook call is a view of the
state at the boundary (log 9). -/
def Obligations.NonMaskableInterruptEntry : Prop :=
  ∀ s : State, s.mem.wf = true → s.runStatus = .running → loadStopHolds s = false → s.nmiRequest = true →
    s.intBlocked ≠ .afterPrefix →
    ∃ t, step s = .next t ∧
      t = { s with
        regs := { s.regs with sp := s.regs.sp - 2 }
        iff1 := false, halted := false, r := (s.rInc 1).r, intBlocked := .none, pc := 0x0066, memptr := 0x0066
        mem := t.mem, env := s.nextBoundary.env, trace := { s.trace with record := none }, t := s.t + 11 } ∧
      StoresWord s t (s.regs.sp - 2) (if s.halted then s.pc + 1 else s.pc) ∧
      stepAccesses s = pushWrites s.regs.sp (if s.halted then s.pc + 1 else s.pc)

/-- A RETN that runs right after an NMI acceptance, with the stack in writable memory, comes back to the interrupted address with
every main register, SP included, as before, and with IFF1 set from IFF2: so the enable state is as before where IFF1 and IFF2 were
equal, which in a nested NMI they need not be (R352, R515, R518, R519). -/
def Obligations.RetnComesBackFromNmi : Prop :=
  ∀ (s : State) (y : BitVec 3), s.mem.wf = true →
    s.params.romLimit ≤ (s.regs.sp - 1).toNat → s.params.romLimit ≤ (s.regs.sp - 2).toNat →
    ∃ u, exec (.retn y) s.enterNmi = .next u ∧ u.regs = s.regs ∧ u.iff1 = s.iff2 ∧ u.iff2 = s.iff2 ∧
      (s.iff1 = s.iff2 → u.iff1 = s.iff1) ∧
      u.pc = (if s.halted then s.pc + 1 else s.pc) ∧ u.halted = false

/-- Directly after an EI no maskable interrupt is accepted, and directly after an ignored prefix no interrupt of either kind,
whatever is requested; after every other instruction step nothing is blocked (R51, R357, R361, R561, R562). -/
def Obligations.EiAndPrefixesDelayInterrupts : Prop :=
  ∀ s t : State, instructionStep s = .next t →
    (s.fetched = .ei → t.iff1 = true ∧ intTaken t = false ∧ nmiTaken t = t.nmiRequest) ∧
    ((∃ x b, s.fetched = .ignoredPrefix x b) → intTaken t = false ∧ nmiTaken t = false) ∧
    (s.fetched ≠ .ei → (∀ x b, s.fetched ≠ .ignoredPrefix x b) → t.intBlocked = .none)

/-! ## Whole-machine rules -/

/-- The invariant holds after reset. -/
def Obligations.ResetMeetsTheInvariant : Prop := Inv State.reset

/-- Every step that completes keeps the invariant, from every state that meets it: instructions, acceptances, idle steps, tape
loads and accelerator steps. -/
def Obligations.EveryStepKeepsTheInvariant : Prop :=
  ∀ s t : State, Inv s → step s = .next t → Inv t

/-- Who writes the control state, over all instructions (R32, R36, R37, R38, R39, R51, R52, R56): I only LD I,A; R only LD R,A; IM
only the IM instructions; IFF2 only DI and EI; IFF1 those and RETI and RETN; the shadow set only EX AF,AF' and EXX; HALTED only
HALT; INT_BLOCKED only EI and an ignored prefix; the parameters, RUN_STATUS, the tape and the diagnostics none. The port answers
and the border move only with an instruction that reads or writes a port (R91, R92). -/
def Obligations.EachControlRegisterHasItsWriters : Prop :=
  ∀ (i : Instr) (s t : State), exec i s = .next t →
    (i ≠ .ldIA → t.i = s.i) ∧ (i ≠ .ldRA → t.r = s.r) ∧
    ((∀ y, i ≠ .im0 y) → (∀ y, i ≠ .im1 y) → (∀ y, i ≠ .im2 y) → t.im = s.im) ∧
    (i ≠ .di → i ≠ .ei → t.iff2 = s.iff2) ∧
    (i ≠ .di → i ≠ .ei → i ≠ .reti → (∀ y, i ≠ .retn y) → t.iff1 = s.iff1) ∧
    (i ≠ .exAfAf → i ≠ .exx → t.shadow = s.shadow) ∧
    (i ≠ .halt → t.halted = s.halted) ∧
    (i ≠ .ei → (∀ x b, i ≠ .ignoredPrefix x b) → t.intBlocked = s.intBlocked) ∧
    t.params = s.params ∧ t.runStatus = s.runStatus ∧ t.tape = s.tape ∧ t.warnings = s.warnings ∧
    (readsPort i = false → t.env.ports = s.env.ports) ∧
    (t.trace.portWrites = s.trace.portWrites → t.trace.border = s.trace.border)

/-- R[7] changes in no step but one that runs LD R,A (R37), outside a tape load. -/
def Obligations.RefreshTopBitChangesOnlyByLoad : Prop :=
  ∀ s t : State, s.tape = none → step s = .next t → s.fetched ≠ .ldRA → t.r.getLsbD 7 = s.r.getLsbD 7

/-- T never goes back; outside a tape load every step that completes takes 4 T-states or more, and at most 23 (R54, R174, R181,
R570). -/
def Obligations.TimeOnlyAdvances : Prop :=
  ∀ s t : State, step s = .next t → s.t ≤ t.t ∧ (s.tape = none → s.t + 4 ≤ t.t ∧ t.t ≤ s.t + 23)

/-- A step faults only for the three causes of R178 and R501, each with its own information; it is refused only where the run
is over (R55; the refusal is the model's own form of it, DESIGN CHOICE, log 12). -/
def Obligations.FaultsHaveTheThreeCauses : Prop :=
  (∀ (s : State) (f : Fault), step s = .fault f →
    (∃ op, f = .undefinedOpcode s.pc op ∧ s.params.edUndefined = .fault ∧ s.read s.pc = 0xED ∧ s.read (s.pc + 1) = op) ∨
    (f = .im0BusByte s.params.intBusByte s.pc ∧ s.im = .im0 ∧ s.iff1 = true ∧ s.params.intBusByte &&& 0xC7 ≠ 0xC7) ∨
    (f = .unexpectedEndOfTape s.pc s.t ∧ s.tape.isSome = true)) ∧
  (∀ (s : State) (r : Refusal), step s = .refused r ↔ r = .runOver ∧ s.runStatus ≠ .running)

/-- With undefined ED opcodes as no-ops, an RST on the bus and no tape, every step of a running run completes and keeps it so:
a run of any length ends in no fault, whatever is in memory and whatever the platform's inputs do (R139, R501). -/
def Obligations.NoFaultWithoutACause : Prop :=
  ∀ (s : State), s.runStatus = .running → FaultFree s →
    Completes s ∧ ∀ n f, (run n s).runStatus ≠ .faulted f

/-! ## The tape -/

/-- The EAR level at a time is the parity of the number of edges of R421 at or before it, and LAST_EDGE is the last of them (R421,
R423). In the tape-loading environment an even port answers 0xBF with EAR(T0) on bit 6, and an odd port 0xFF (R425). -/
def Obligations.TapeLevelAndItsPort : Prop :=
  (∀ (perMs t : Nat) (tape : Tape),
     tape.ear perMs t = decide ((tape.edges perMs).countP (fun e => decide (e ≤ t)) % 2 = 1) ∧
     tape.lastEdge perMs = (tape.edges perMs).getLastD tape.startT) ∧
  (∀ (s : State) (tape : Tape) (port : Word), s.tape = some tape → s.params.portRead = .ula →
     s.portByte port = if port.getLsbD 0 then (0xFF : Byte)
       else (0xBF : Byte) ||| ((BitVec.ofNat 8 (tape.ear s.params.tstatesPerMs s.t).toNat : Byte) <<< 6))

/-- A TAP container of n records decodes to exactly n blocks in file order, each a standard block with its record's bytes and a pause
of 1000 ms; after any number of records a length or a body that lies past the end is E6 at that record's offset (R403, R415). A TZX
container without the signature is E3 (R404). A TZX container of records that decode gives their blocks in file order, and
otherwise the first bad record, after any number of good ones, is the error, with its offset: E5 for an id in TZX_UNSUPPORTED,
whatever its body; else E4 for an id in no table; else E6 for a length field or a body that lies past the end (R406, R412, R414,
R415, R504). -/
def Obligations.TapeContainersDecodeInOrder : Prop :=
  (∀ (unsupported : List Byte) (records : List (List Byte)), (∀ r ∈ records, r.length < 65536) →
     decodeTape unsupported .tap (records.flatMap tapRecord) = .ok (records.map (fun r => stdBlock 1000 r .tap)) ∧
     ∀ tail : List Byte,
       (tail.length = 1 ∨ ∃ lo hi rest, tail = lo :: hi :: rest ∧ rest.length < lo.toNat + 256 * hi.toNat) →
       decodeTape unsupported .tap (records.flatMap tapRecord ++ tail)
         = .error (.truncated (records.flatMap tapRecord).length)) ∧
  (∀ (unsupported bytes : List Byte), bytes.length < 10 ∨ bytes.take 8 ≠ tzxSignature →
     decodeTape unsupported .tzx bytes = .error .badSignature) ∧
  (∀ (unsupported : List Byte) (major minor : Byte) (records : List (List Byte)),
     (∀ r ∈ records, IsTzxRecord unsupported r) →
     let good := tzxSignature ++ [major, minor] ++ records.flatten
     decodeTape unsupported .tzx good = .ok (records.flatMap recordBlocks) ∧
     ∀ (id : Byte) (body : List Byte),
       (unsupported.contains id = true →
         decodeTape unsupported .tzx (good ++ id :: body) = .error (.unsupportedBlock id good.length)) ∧
       (unsupported.contains id = false → tzxRow id = none →
         decodeTape unsupported .tzx (good ++ id :: body) = .error (.unknownBlockId id good.length)) ∧
       (∀ row, unsupported.contains id = false → tzxRow id = some row →
         (∀ n, leField body row.fieldOff row.fieldLen = some n → body.length < row.base + row.mult * n) →
         decodeTape unsupported .tzx (good ++ id :: body) = .error (.truncated good.length)))

/-! ## Fast loading -/

/-- The LD-BYTES trap (R470, R472, R473): when a block is chosen, the n = DE bytes after the flag go to IX upwards, padded with
the block's last byte, and the registers are those the ROM routine returns with; when none is left, the step is E7. The model's
own choice here: the platform's inputs move on (logs 5, 21). -/
def Obligations.TrapLoadsTheChosenBlock : Prop :=
  ∀ (s : State) (tape : Tape), s.mem.wf = true → s.runStatus = .running → loadStopHolds s = false → NoAcceptance s →
    s.tape = some tape → trapTaken s = true →
    (∀ ws, trapChoice tape s = (ws, none) → step s = .fault (.unexpectedEndOfTape s.pc s.t)) ∧
    (∀ ws b dataEnd, trapChoice tape s = (ws, some (b, dataEnd)) →
      let n := s.regs.de.toNat
      let byte (j : Nat) : Byte := if j < b.data.length then b.data.getD j 0 else b.data.getLastD 0
      let h := (List.range (n + 2)).foldl (fun acc j => acc ^^^ byte j) 0
      ∃ t, step s = .next t ∧
        t = { s with
          regs := { s.regs with
            a := h, f := cpF h 0x01, b := 0xB0, d := 0, e := 0, h := h, l := byte (n + 1)
            ix := s.regs.ix + s.regs.de, sp := s.regs.sp + 2 }
          pc := t.pc, memptr := t.pc, iff1 := true, iff2 := true, intBlocked := .none, t := max s.t dataEnd
          mem := t.mem, warnings := s.warnings ++ ws, env := s.nextBoundary.env, trace := { s.trace with record := none } } ∧
        t.pc = wordOf (t.read (s.regs.sp + 1)) (t.read s.regs.sp) ∧
        (∀ j, j < n → s.params.romLimit ≤ (s.regs.ix + BitVec.ofNat 16 j).toNat →
          t.read (s.regs.ix + BitVec.ofNat 16 j) = byte (j + 1)) ∧
        (∀ a : Word, n ≤ (a - s.regs.ix).toNat → t.read a = s.read a) ∧
        (flagC t.regs.f = true ↔ h = 0))

/-- The trap's choice (R471): the first block still to end that is not empty, has the expected flag byte and is no truncated
header; and a warning for each block still to end before it, or for each where there is none. -/
def Obligations.TrapChoosesTheFirstFittingBlock : Prop :=
  ∀ (a : Byte) (de : Word) (t : Nat) (blocks : List (Nat × DataBlock × Nat)),
    let playing := blocks.filter (fun b => decide (t < b.2.2))
    let truncated (b : DataBlock) : Prop := a = 0 ∧ de = 17 ∧ b.data.length < 19
    let fits (b : DataBlock) : Prop := b.data.head? = some a ∧ ¬ truncated b
    (chooseBlock a de t blocks).2 = (playing.find? (fun b => decide (fits b.2.1))).map (fun b => b.2) ∧
    (chooseBlock a de t blocks).1 = (playing.takeWhile (fun b => !decide (fits b.2.1))).map (fun b =>
      match b.2.1.data.head? with
      | none => .emptyBlock b.1
      | some flag => if flag = a then .truncatedHeader b.1 else .flagMismatch b.1 flag a)

/-- The accelerator step (R456, R461, R462, R466). It is taken exactly where the core is not halted, IFF1 is 0, no NMI is requested
and the first selected entry that matches at PC loops; at a boundary of a load with no acceptance, no load stop and no trap it is
the step. It is E7 where no edge can end the wait. Otherwise it commits the iterations that loop, all of them: the state it ends in
loops no more, and is the state the same instructions give one by one, back at PC, but for the Tracer's side (log 27). The only
other E7 is of a loop that goes on beyond any tape, the model's own bound (log 15; an iteration's own on logs 14 and 16). -/
def Obligations.AcceleratorStepEqualsItsInstructions : Prop :=
  (∀ (tape : Tape) (nmi : Bool) (s : State),
    ((acceleratorStep tape nmi s).isSome = true ↔
      s.halted = false ∧ s.iff1 = false ∧ nmi = false ∧ ∃ a, IsActive s a ∧ (iteration a s).isSome = true)) ∧
  (∀ (s : State) (tape : Tape) (r : Result), s.runStatus = .running → s.tape = some tape → loadStopHolds s = false →
    NoAcceptance s → trapTaken s = false → acceleratorStep tape s.nmiRequest s.nextBoundary = some r → step s = r) ∧
  (∀ (tape : Tape) (s : State) (a : Accelerator), s.halted = false → s.iff1 = false → IsActive s a →
    (iteration a s).isSome = true →
    let lastEdge := tape.lastEdge s.params.tstatesPerMs
    let endOfTape : Result := .fault (.unexpectedEndOfTape s.pc s.t)
    (lastEdge ≤ s.t + a.inTime → acceleratorStep tape false s = some endOfTape) ∧
    (s.t + a.inTime < lastEdge → ∀ k u, k ≤ loopFuel lastEdge s.t → iterations a k s = some u → iteration a u = none →
      acceleratorStep tape false s = some (.next { u with trace := { s.trace with record := none } })) ∧
    (s.t + a.inTime < lastEdge → (∀ k, k ≤ loopFuel lastEdge s.t → ∀ u, iterations a k s = some u → iteration a u ≠ none) →
      acceleratorStep tape false s = some endOfTape)) ∧
  (∀ (a : Accelerator) (k : Nat) (s u : State), iterations a k s = some u →
    u.pc = s.pc ∧ ∃ n, k ≤ n ∧ instructionSteps n s = some u)

/-- One iteration of the ROM's edge loop (R453, R464): from its loop entry L, with B + 1 not 0, it loops exactly when EAR sixteen
T-states on is C[5], and then takes 59 T and 9 M1 fetches, adds 1 to B and leaves A = 0, F = 0x54 and MEMPTR = L. With B + 1 = 0
it exits by RET Z, wherever that leads outside the loop. In both cases the entry is valid there, and with PORT_READ rule R425 it is
a valid entry (R455): one port read, in_time after the start, and only ear_mask decides. Validity is read as log 31 says (DEDUCED):
ear_mask decides among the answers PORT_READ can give, and a return address on the stack lies outside the loop; an iteration is
followed as logs 14 and 16 say. -/
def Obligations.RomLoopIterationInClosedForm : Prop :=
  (∀ (s : State) (tape : Tape), s.tape = some tape → s.params.portRead = .ula → s.iff1 = false → s.halted = false →
    s.trace.stopPending = false → matchesAt s romEntry.signature s.pc = true →
    let ear := tape.ear s.params.tstatesPerMs (s.t + romEntry.inTime)
    (s.regs.b + 1 ≠ 0 → ear = s.regs.c.getLsbD 5 → ∃ u, iteration romEntry s = some u ∧
      u = { s with
        regs := { s.regs with a := 0, f := 0x54, b := s.regs.b + 1 }
        r := (s.rInc romEntry.loopRInc).r, t := s.t + romEntry.loopTime, memptr := s.pc, intBlocked := .none
        trace := u.trace }) ∧
    (s.regs.b + 1 ≠ 0 → ear ≠ s.regs.c.getLsbD 5 → iteration romEntry s = none) ∧
    (s.regs.b + 1 = 0 → romEntry.signature.length ≤ (s.popped - s.pc).toNat → iteration romEntry s = none) ∧
    (s.regs.b + 1 ≠ 0 ∨ romEntry.signature.length ≤ (s.popped - s.pc).toNat → entryValidAt romEntry s)) ∧
  (∀ p : Params, p.portRead = .ula → entryValid p romEntry)

/-- The load stop (R477): at a boundary where the policy holds the run stops before any step: at PC = a for `start(a)`, and by default
once every data block has ended and PC has left the ROM (the check is a step of its own, log 11). The errors of fast_load before
its first step leave the state as given: an accelerator name that does not resolve, checked first, and then a tape that does not
decode (R457, R476, R503, R504). Of several names that do not resolve, the first in list order is reported: that is the model's
choice (DESIGN CHOICE, log 38). -/
def Obligations.LoadsStopAsSpecified : Prop :=
  (∀ (s : State) (tape : Tape), s.runStatus = .running → s.tape = some tape →
     (match s.params.loadStop with
       | .start a => s.pc = a
       | .auto => tape.lastDataEnd s.params.tstatesPerMs ≤ s.t ∧ 0x4000 ≤ s.pc.toNat) →
     step s = .next { s with runStatus := .stopped } ∧ ∀ n, run (n + 1) s = { s with runStatus := .stopped }) ∧
  (∀ (kind : TapeKind) (container : List Byte) (fuel : Nat) (s : State),
     (∀ names name, s.params.selection = .names names →
       names.find? (fun n => (resolve s.params.registry n).isNone) = some name →
       fastLoad kind container fuel s = .error (.unrecognisedAccelerator name) s) ∧
     (∀ e, (∀ names, s.params.selection = .names names → ∀ n ∈ names, (resolve s.params.registry n).isSome = true) →
       decodeTape s.params.tzxUnsupported kind container = .error e →
       fastLoad kind container fuel s = .error (.tape e) s))

/-! ## Reset and launch -/

/-- A hardware reset from any state leaves the values of R57, with the registers it leaves unspecified as given, and memory as it
was (R57, R550); the model's State.reset has the same values where R57 gives one. -/
def Obligations.ResetLeavesTheSpecifiedState : Prop :=
  (∀ (u : ResetInputs) (s : State),
    let t := hardReset u s
    t.pc = 0 ∧ t.i = 0 ∧ t.r = 0 ∧ t.iff1 = false ∧ t.iff2 = false ∧ t.im = .im0 ∧ t.regs.sp = 0xFFFF ∧ t.regs.af = 0xFFFF ∧
    t.regs.bc = u.bc ∧ t.regs.de = u.de ∧ t.regs.hl = u.hl ∧ t.regs.ix = u.ix ∧ t.regs.iy = u.iy ∧ t.shadow = u.shadow ∧
    t.memptr = u.memptr ∧ t.intBlocked = .none ∧ t.halted = false ∧ t.t = 0 ∧ t.runStatus = .running ∧ t.mem = s.mem) ∧
  (State.reset.pc = 0 ∧ State.reset.i = 0 ∧ State.reset.r = 0 ∧ State.reset.iff1 = false ∧ State.reset.iff2 = false ∧
    State.reset.im = .im0 ∧ State.reset.regs.sp = 0xFFFF ∧ State.reset.regs.af = 0xFFFF ∧ State.reset.intBlocked = .none ∧
    State.reset.halted = false ∧ State.reset.t = 0 ∧ State.reset.runStatus = .running)

/-- A launch (R551) refuses a memory argument that is not 65536 bytes, places byte i at address i, starts at start_pc with
nothing blocked and the run running, gives every register named in `registers` its value, and 0 to every register that is not,
whatever else is given; what is omitted of the flip-flops, IM, MEMPTR, T and HALTED is 0. Of a register given twice, or as a pair
and as a half, the word and then the last entry counts: that is the model's choice, not R551's (DESIGN CHOICE, log 36). -/
def Obligations.LaunchBuildsTheStartState : Prop :=
  LaunchRegs.none = { bytes := [], words := [], iff1 := false, iff2 := false, im := .im0, memptr := 0, t := 0, halted := false } ∧
  ∀ (memory : List Byte) (regs : LaunchRegs) (pc : Word) (params : Params) (env : Env),
    (memory.length ≠ 65536 → launch memory regs pc params env = none) ∧
    (memory.length = 65536 → ∃ s, launch memory regs pc params env = some s ∧
      ((∀ a : Word, s.read a = memory.getD a.toNat 0) ∧ s.mem.wf = true ∧
        s.pc = pc ∧ s.intBlocked = .none ∧ s.runStatus = .running ∧ s.iff1 = regs.iff1 ∧ s.iff2 = regs.iff2 ∧ s.im = regs.im ∧
        s.memptr = regs.memptr ∧ s.t = regs.t ∧ s.halted = regs.halted) ∧
      (∀ before id v after, regs.bytes = before ++ (id, v) :: after → (∀ g ∈ after, g.1 ≠ id) →
        (∀ g ∈ regs.words, id ∉ g.1.halves) → s.getByte id = v) ∧
      (∀ before id v after, regs.words = before ++ (id, v) :: after → (∀ g ∈ after, g.1 ≠ id) → id ≠ .pc →
        s.getWord id = v) ∧
      (∀ id, (∀ g ∈ regs.bytes, g.1 ≠ id) → (∀ g ∈ regs.words, id ∉ g.1.halves) → s.getByte id = 0) ∧
      ((∀ g ∈ regs.words, g.1 ≠ .sp) → s.regs.sp = 0))
end

