-- ==== Sys2Proof/Laws/Accel.lean ====
section
/-! SUPPORT. What an iteration of an accelerator loop can be (R460), and that the bound on its length changes no iteration that
ends within it (log 14). -/

namespace Sys2Proof.Machine

@[simp] theorem State.answered_regs (s : State) (v : Byte) : (s.answered v).regs = s.regs := rfl
@[simp] theorem State.answered_pc (s : State) (v : Byte) : (s.answered v).pc = s.pc := rfl
@[simp] theorem State.answered_mem (s : State) (v : Byte) : (s.answered v).mem = s.mem := rfl
@[simp] theorem State.answered_t (s : State) (v : Byte) : (s.answered v).t = s.t := rfl
@[simp] theorem State.answered_tape (s : State) (v : Byte) : (s.answered v).tape = s.tape := rfl
@[simp] theorem State.answered_halted (s : State) (v : Byte) : (s.answered v).halted = s.halted := rfl

/-- An answered state answers that byte, in the tape-loading environment. -/
theorem State.answered_portByte (s : State) (tape : Tape) (v : Byte) (port : Word) (h : s.tape = some tape) :
    (s.answered v).portByte port = v := by
  simp [State.portByte, h, State.tapePortByte, State.answered, InputExpr.eval]

/-- One instruction step of an iteration that loops: it ends it at `l`, or it stays inside the loop and the rest loops (R460). -/
theorem iterateFrom_cases {len : Nat} {l : Word} {n : Nat} {s u : State} (h : iterateFrom len l (n + 1) s = some u) :
    ∃ s1, instructionStep s = .next s1 ∧
      ((s1.pc = l ∧ u = s1) ∨
       (s1.pc ≠ l ∧ insideLoop len l s1.pc = true ∧ s1.halted = false ∧ iterateFrom len l n s1 = some u)) := by
  simp only [iterateFrom] at h
  split at h
  · rename_i s1 e
    refine ⟨s1, e, ?_⟩
    split at h
    · exact .inl ⟨‹_›, by simpa using h.symm⟩
    · split at h
      · rename_i hc
        simp only [Bool.and_eq_true, Bool.not_eq_true'] at hc
        exact .inr ⟨‹_›, hc.1, hc.2, h⟩
      · cases h
  · cases h
  · cases h

/-- An iteration that loops ends at its loop entry (R460). -/
theorem iterateFrom_pc {len : Nat} {l : Word} {n : Nat} {s u : State} (h : iterateFrom len l n s = some u) : u.pc = l := by
  induction n generalizing s with
  | zero => cases h
  | succ n ih =>
    obtain ⟨s1, -, ⟨hp, rfl⟩ | ⟨-, -, -, hr⟩⟩ := iterateFrom_cases h
    · exact hp
    · exact ih hr

/-- A longer bound gives the same iteration. -/
theorem iterateFrom_mono {len : Nat} {l : Word} {n m : Nat} {s u : State} (hnm : n ≤ m) (h : iterateFrom len l n s = some u) :
    iterateFrom len l m s = some u := by
  induction n generalizing m s with
  | zero => cases h
  | succ n ih =>
    obtain ⟨k, rfl⟩ : ∃ k, m = k + 1 := ⟨m - 1, by omega⟩
    obtain ⟨s1, e, ⟨hp, rfl⟩ | ⟨hp, hi, hh, hr⟩⟩ := iterateFrom_cases h
    · simp [iterateFrom, e, hp]
    · simp [iterateFrom, e, hp, hi, hh, ih (by omega : n ≤ k) hr]

/-- One instruction step that comes back to its own address is an iteration (R460). -/
theorem iteration_of_step {a : Accelerator} {s u : State} (hh : s.halted = false) (h : instructionStep s = .next u)
    (hp : u.pc = s.pc) : iteration a s = some u := by
  have h1 : iterateFrom a.signature.length s.pc 1 s = some u := by simp [iterateFrom, h, hp]
  simpa [iteration, hh] using iterateFrom_mono (m := iterationFuel) (by decide) h1

theorem iteration_pc {a : Accelerator} {s u : State} (h : iteration a s = some u) : u.pc = s.pc := by
  unfold iteration at h
  split at h
  · cases h
  · exact iterateFrom_pc h

/-- The loop of an accelerator step keeps PC, and the state it ends in loops no more (R461). -/
theorem loopIterations_spec {a : Accelerator} {n : Nat} {s u : State} (h : loopIterations a n s = some u) :
    u.pc = s.pc ∧ iteration a u = none := by
  induction n generalizing s with
  | zero =>
    simp only [loopIterations] at h
    split at h
    · cases h
    · rename_i hn
      cases h
      exact ⟨rfl, by simpa using hn⟩
  | succ n ih =>
    simp only [loopIterations] at h
    split at h
    · rename_i s1 e
      obtain ⟨hp, hn⟩ := ih h
      exact ⟨hp.trans (iteration_pc e), hn⟩
    · rename_i e
      cases h
      exact ⟨rfl, e⟩

end Sys2Proof.Machine
end

