-- ==== Sys2Proof/Laws/Decode.lean ====
section
/-! SUPPORT. The fields of an opcode byte the encoder built (R121), and halves and wholes of a word. -/

namespace Sys2Proof

/-- An opcode byte from fields in range is their weighted sum. -/
theorem opByte_toNat {x y z : Nat} (hx : x < 4) (hy : y < 8) (hz : z < 8) :
    (opByte x y z).toNat = 64 * x + 8 * y + z := by
  simp only [opByte, BitVec.toNat_ofNat]; omega

theorem opX_opByte {x y z : Nat} (hx : x < 4) (hy : y < 8) (hz : z < 8) : opX (opByte x y z) = x := by
  rw [opX, opByte_toNat hx hy hz]; omega

theorem opY_opByte {x y z : Nat} (hx : x < 4) (hy : y < 8) (hz : z < 8) : opY (opByte x y z) = y := by
  rw [opY, opByte_toNat hx hy hz]; omega

theorem opZ_opByte {x y z : Nat} (hx : x < 4) (hy : y < 8) (hz : z < 8) : opZ (opByte x y z) = z := by
  rw [opZ, opByte_toNat hx hy hz]; omega

/-- `h:l = h*256 + l` (R9). -/
theorem wordOf_toNat (h l : Byte) : (wordOf h l).toNat = h.toNat * 256 + l.toNat := by
  have e : (wordOf h l).toNat = h.toNat <<< 8 ||| l.toNat := BitVec.toNat_append h l
  rw [e, ← Nat.shiftLeft_add_eq_or_of_lt l.isLt, Nat.shiftLeft_eq]

theorem hiOf_toNat (w : Word) : (hiOf w).toNat = w.toNat / 256 := by
  have := w.isLt
  simp only [hiOf, BitVec.extractLsb'_toNat, Nat.shiftRight_eq_div_pow]
  omega

theorem loOf_toNat (w : Word) : (loOf w).toNat = w.toNat % 256 := by
  simp [loOf, BitVec.extractLsb'_toNat]

@[simp] theorem hiOf_wordOf (h l : Byte) : hiOf (wordOf h l) = h := by
  apply BitVec.eq_of_toNat_eq
  have := l.isLt
  rw [hiOf_toNat, wordOf_toNat]; omega

@[simp] theorem loOf_wordOf (h l : Byte) : loOf (wordOf h l) = l := by
  apply BitVec.eq_of_toNat_eq
  have := l.isLt
  rw [loOf_toNat, wordOf_toNat]; omega

@[simp] theorem wordOf_hiOf_loOf (w : Word) : wordOf (hiOf w) (loOf w) = w := by
  apply BitVec.eq_of_toNat_eq
  rw [wordOf_toNat, hiOf_toNat, loOf_toNat]; omega

end Sys2Proof
end

