-- ==== Sys2Proof/Laws/Flags.lean ====
section
/-! SUPPORT. The bits of F: reading a byte built by mkF, szF and szpF, and equality of flag bytes bit by bit. -/

namespace Sys2Proof.Machine

@[simp] theorem flagS_mkF (s z f5 h f3 pv n c : Bool) : flagS (mkF s z f5 h f3 pv n c) = s := by
  revert s z f5 h f3 pv n c; decide

@[simp] theorem flagZ_mkF (s z f5 h f3 pv n c : Bool) : flagZ (mkF s z f5 h f3 pv n c) = z := by
  revert s z f5 h f3 pv n c; decide

@[simp] theorem flag5_mkF (s z f5 h f3 pv n c : Bool) : flag5 (mkF s z f5 h f3 pv n c) = f5 := by
  revert s z f5 h f3 pv n c; decide

@[simp] theorem flagH_mkF (s z f5 h f3 pv n c : Bool) : flagH (mkF s z f5 h f3 pv n c) = h := by
  revert s z f5 h f3 pv n c; decide

@[simp] theorem flag3_mkF (s z f5 h f3 pv n c : Bool) : flag3 (mkF s z f5 h f3 pv n c) = f3 := by
  revert s z f5 h f3 pv n c; decide

@[simp] theorem flagPV_mkF (s z f5 h f3 pv n c : Bool) : flagPV (mkF s z f5 h f3 pv n c) = pv := by
  revert s z f5 h f3 pv n c; decide

@[simp] theorem flagN_mkF (s z f5 h f3 pv n c : Bool) : flagN (mkF s z f5 h f3 pv n c) = n := by
  revert s z f5 h f3 pv n c; decide

@[simp] theorem flagC_mkF (s z f5 h f3 pv n c : Bool) : flagC (mkF s z f5 h f3 pv n c) = c := by
  revert s z f5 h f3 pv n c; decide

/-- A flag byte is its eight bits. -/
theorem mkF_flags (f : Byte) :
    mkF (flagS f) (flagZ f) (flag5 f) (flagH f) (flag3 f) (flagPV f) (flagN f) (flagC f) = f := by
  revert f; decide

/-- Flag bytes with the same eight flags are equal. -/
theorem flags_ext {f g : Byte} (hS : flagS f = flagS g) (hZ : flagZ f = flagZ g) (h5 : flag5 f = flag5 g)
    (hH : flagH f = flagH g) (h3 : flag3 f = flag3 g) (hPV : flagPV f = flagPV g) (hN : flagN f = flagN g)
    (hC : flagC f = flagC g) : f = g := by
  rw [← mkF_flags f, ← mkF_flags g, hS, hZ, h5, hH, h3, hPV, hN, hC]

@[simp] theorem szF_flags (v : Byte) (h pv n c : Bool) :
    flagS (szF v h pv n c) = v.getLsbD 7 ∧ flagZ (szF v h pv n c) = (v == 0) ∧ flag5 (szF v h pv n c) = v.getLsbD 5 ∧
      flagH (szF v h pv n c) = h ∧ flag3 (szF v h pv n c) = v.getLsbD 3 ∧ flagPV (szF v h pv n c) = pv ∧
      flagN (szF v h pv n c) = n ∧ flagC (szF v h pv n c) = c := by
  simp [szF]

@[simp] theorem szpF_flags (v : Byte) (h n c : Bool) :
    flagS (szpF v h n c) = v.getLsbD 7 ∧ flagZ (szpF v h n c) = (v == 0) ∧ flag5 (szpF v h n c) = v.getLsbD 5 ∧
      flagH (szpF v h n c) = h ∧ flag3 (szpF v h n c) = v.getLsbD 3 ∧ flagPV (szpF v h n c) = parity v ∧
      flagN (szpF v h n c) = n ∧ flagC (szpF v h n c) = c := by
  simp [szpF, szF]

end Sys2Proof.Machine
end

