-- ==== Sys2Proof/Laws/Launch.lean ====
section
/-! SUPPORT. Reading a register by identifier after writing one by identifier (R53), what a launch puts its registers in with. -/

namespace Sys2Proof.Machine.State

theorem getByte_setByte (s : State) (id other : ByteId) (v : Byte) :
    (s.setByte id v).getByte other = if other = id then v else s.getByte other := by
  cases id <;> cases other <;> simp [setByte, getByte, setHalf, Regs.setHalf, Regs.setIdx, Regs.getIdx]

theorem setByte_sp (s : State) (id : ByteId) (v : Byte) : (s.setByte id v).regs.sp = s.regs.sp := by
  cases id <;> rfl

/-- A pair leaves every register that is not one of its halves alone. -/
theorem getByte_setWord_other (s : State) {id : WordId} {other : ByteId} (v : Word) (h : other ∉ id.halves) :
    (s.setWord id v).getByte other = s.getByte other := by
  cases id <;> cases other <;> first | rfl | (simp [WordId.halves] at h)

theorem getWord_setWord (s : State) (id other : WordId) (v : Word) :
    (s.setWord id v).getWord other = if other = id then v else s.getWord other := by
  cases id <;> cases other <;> first
    | rfl
    | simp [setWord, getWord, Regs.setAf, setBc, setDe, setHl, Regs.setBc, Regs.setDe, Regs.setHl, Regs.af, Regs.bc, Regs.de,
        Regs.hl]

end Sys2Proof.Machine.State
end

