-- ==== Sys2Proof/Laws/Memory.lean ====
section
/-! SUPPORT. The laws of the memory image: a byte reads as last stored, other bytes are left alone, and every store keeps the
canonical form. -/

namespace Sys2Proof.Memory

@[simp] theorem get_nil (a : Nat) : get [] a = blank := rfl

@[simp] theorem wf_nil : wf [] = true := rfl

/-- What the canonical form from `lo` on says of a list with a first cell. -/
theorem wfFrom_cons {lo k : Nat} {v : Byte} {rest : Memory} :
    wfFrom lo ((k, v) :: rest) = true ↔ lo ≤ k ∧ k < size ∧ v ≠ blank ∧ wfFrom (k + 1) rest = true := by
  simp [wfFrom, and_assoc]

theorem wfFrom_mono {lo lo' : Nat} {m : Memory} (h : wfFrom lo m = true) (hle : lo' ≤ lo) : wfFrom lo' m = true := by
  cases m with
  | nil => rfl
  | cons c rest =>
    obtain ⟨k, v⟩ := c
    rw [wfFrom_cons] at h ⊢
    exact ⟨hle.trans h.1, h.2⟩

/-- Below the first address of a canonical list every byte is blank. -/
theorem get_below {lo a : Nat} {m : Memory} (h : wfFrom lo m = true) (ha : a < lo) : get m a = blank := by
  induction m generalizing lo with
  | nil => rfl
  | cons c rest ih =>
    obtain ⟨k, v⟩ := c
    rw [wfFrom_cons] at h
    have hk : k ≠ a := by omega
    simpa [get, hk] using ih h.2.2.2 (by omega)

/-- A store leaves every other byte alone. -/
theorem get_set_other (m : Memory) {a b : Nat} (v : Byte) (hab : b ≠ a) : get (set m a v) b = get m b := by
  induction m with
  | nil => by_cases hv : v = blank <;> simp [set, get, hv, Ne.symm hab]
  | cons c rest ih =>
    obtain ⟨k, w⟩ := c
    simp only [set]
    split
    · simp only [get]; split <;> simp_all
    · split
      · rename_i hk; subst hk
        split <;> simp [get, Ne.symm hab]
      · split
        · rfl
        · simp [get, Ne.symm hab]

/-- In a canonical memory a byte reads as last stored. -/
theorem get_set_same {lo : Nat} {m : Memory} (a : Nat) (v : Byte) (h : wfFrom lo m = true) : get (set m a v) a = v := by
  induction m generalizing lo with
  | nil => by_cases hv : v = blank <;> simp [set, get, hv]
  | cons c rest ih =>
    obtain ⟨k, w⟩ := c
    rw [wfFrom_cons] at h
    simp only [set]
    split
    · have hk : k ≠ a := by omega
      simpa [get, hk] using ih h.2.2.2
    · split
      · rename_i hk; subst hk
        split
        · rename_i hv; rw [hv]; exact get_below h.2.2.2 (by omega)
        · simp [get]
      · split
        · rename_i h1 h2 hv
          have hk : k ≠ a := h2
          rw [hv]
          simpa [get, hk] using get_below h.2.2.2 (by omega : a < k + 1)
        · simp [get]

/-- A store below 65536 keeps the canonical form. -/
theorem wfFrom_set {lo : Nat} {m : Memory} {a : Nat} (v : Byte) (h : wfFrom lo m = true) (hlo : lo ≤ a) (ha : a < size) :
    wfFrom lo (set m a v) = true := by
  induction m generalizing lo with
  | nil => by_cases hv : v = blank <;> simp [set, wfFrom, hv, hlo, ha]
  | cons c rest ih =>
    obtain ⟨k, w⟩ := c
    rw [wfFrom_cons] at h
    obtain ⟨h1, h2, h3, h4⟩ := h
    simp only [set]
    split
    · rw [wfFrom_cons]; exact ⟨h1, h2, h3, ih h4 (by omega)⟩
    · split
      · rename_i hk; subst hk
        split
        · exact wfFrom_mono h4 (by omega)
        · rename_i hv; rw [wfFrom_cons]; exact ⟨h1, h2, hv, h4⟩
      · split
        · rw [wfFrom_cons]; exact ⟨h1, h2, h3, h4⟩
        · rename_i hv
          rw [wfFrom_cons, wfFrom_cons]
          exact ⟨hlo, ha, hv, by omega, h2, h3, h4⟩

theorem wf_set {m : Memory} {a : Nat} (v : Byte) (h : wf m = true) (ha : a < size) : wf (set m a v) = true :=
  wfFrom_set v h (Nat.zero_le a) ha

/-- Canonical memories that read the same are the same list. -/
theorem ext {lo : Nat} {m m' : Memory} (h : wfFrom lo m = true) (h' : wfFrom lo m' = true)
    (hget : ∀ a, get m a = get m' a) : m = m' := by
  induction m generalizing lo m' with
  | nil =>
    cases m' with
    | nil => rfl
    | cons c rest =>
      obtain ⟨k, v⟩ := c
      rw [wfFrom_cons] at h'
      have := hget k
      simp [get] at this
      exact absurd this.symm h'.2.2.1
  | cons c rest ih =>
    obtain ⟨k, v⟩ := c
    rw [wfFrom_cons] at h
    cases m' with
    | nil =>
      have := hget k
      simp [get] at this
      exact absurd this h.2.2.1
    | cons c' rest' =>
      obtain ⟨k', v'⟩ := c'
      rw [wfFrom_cons] at h'
      have hk : k = k' := by
        rcases lt_trichotomy k k' with hlt | heq | hgt
        · have := hget k
          have hne : k' ≠ k := by omega
          simp only [get, if_true, hne, if_false] at this
          exact absurd (this.trans (get_below h'.2.2.2 (by omega))) h.2.2.1
        · exact heq
        · have := hget k'
          have hne : k ≠ k' := by omega
          simp only [get, if_true, hne, if_false] at this
          exact absurd (this.symm.trans (get_below h.2.2.2 (by omega))) h'.2.2.1
      subst hk
      have hv : v = v' := by simpa [get] using hget k
      subst hv
      congr 1
      refine ih h.2.2.2 h'.2.2.2 fun a => ?_
      by_cases ha : k = a
      · subst ha; rw [get_below h.2.2.2 (by omega), get_below h'.2.2.2 (by omega)]
      · simpa [get, ha] using hget a

end Sys2Proof.Memory
end

