-- ==== Sys2Proof/Laws/State.lean ====
section
/-! SUPPORT. What each update of State does to each field, so that no proof unfolds a record update. -/

namespace Sys2Proof.Machine.State

@[simp] theorem setRegs_regs (s : State) (v : Regs) : (s.setRegs v).regs = v := rfl
@[simp] theorem setRegs_shadow (s : State) (v : Regs) : (s.setRegs v).shadow = s.shadow := rfl
@[simp] theorem setRegs_pc (s : State) (v : Regs) : (s.setRegs v).pc = s.pc := rfl
@[simp] theorem setRegs_i (s : State) (v : Regs) : (s.setRegs v).i = s.i := rfl
@[simp] theorem setRegs_r (s : State) (v : Regs) : (s.setRegs v).r = s.r := rfl
@[simp] theorem setRegs_iff1 (s : State) (v : Regs) : (s.setRegs v).iff1 = s.iff1 := rfl
@[simp] theorem setRegs_iff2 (s : State) (v : Regs) : (s.setRegs v).iff2 = s.iff2 := rfl
@[simp] theorem setRegs_im (s : State) (v : Regs) : (s.setRegs v).im = s.im := rfl
@[simp] theorem setRegs_memptr (s : State) (v : Regs) : (s.setRegs v).memptr = s.memptr := rfl
@[simp] theorem setRegs_intBlocked (s : State) (v : Regs) : (s.setRegs v).intBlocked = s.intBlocked := rfl
@[simp] theorem setRegs_halted (s : State) (v : Regs) : (s.setRegs v).halted = s.halted := rfl
@[simp] theorem setRegs_t (s : State) (v : Regs) : (s.setRegs v).t = s.t := rfl
@[simp] theorem setRegs_runStatus (s : State) (v : Regs) : (s.setRegs v).runStatus = s.runStatus := rfl
@[simp] theorem setRegs_mem (s : State) (v : Regs) : (s.setRegs v).mem = s.mem := rfl
@[simp] theorem setRegs_trace (s : State) (v : Regs) : (s.setRegs v).trace = s.trace := rfl
@[simp] theorem setRegs_env (s : State) (v : Regs) : (s.setRegs v).env = s.env := rfl
@[simp] theorem setRegs_tape (s : State) (v : Regs) : (s.setRegs v).tape = s.tape := rfl
@[simp] theorem setRegs_warnings (s : State) (v : Regs) : (s.setRegs v).warnings = s.warnings := rfl
@[simp] theorem setRegs_params (s : State) (v : Regs) : (s.setRegs v).params = s.params := rfl

@[simp] theorem setA_regs (s : State) (v : Byte) : (s.setA v).regs = { s.regs with a := v } := rfl
@[simp] theorem setA_shadow (s : State) (v : Byte) : (s.setA v).shadow = s.shadow := rfl
@[simp] theorem setA_pc (s : State) (v : Byte) : (s.setA v).pc = s.pc := rfl
@[simp] theorem setA_i (s : State) (v : Byte) : (s.setA v).i = s.i := rfl
@[simp] theorem setA_r (s : State) (v : Byte) : (s.setA v).r = s.r := rfl
@[simp] theorem setA_iff1 (s : State) (v : Byte) : (s.setA v).iff1 = s.iff1 := rfl
@[simp] theorem setA_iff2 (s : State) (v : Byte) : (s.setA v).iff2 = s.iff2 := rfl
@[simp] theorem setA_im (s : State) (v : Byte) : (s.setA v).im = s.im := rfl
@[simp] theorem setA_memptr (s : State) (v : Byte) : (s.setA v).memptr = s.memptr := rfl
@[simp] theorem setA_intBlocked (s : State) (v : Byte) : (s.setA v).intBlocked = s.intBlocked := rfl
@[simp] theorem setA_halted (s : State) (v : Byte) : (s.setA v).halted = s.halted := rfl
@[simp] theorem setA_t (s : State) (v : Byte) : (s.setA v).t = s.t := rfl
@[simp] theorem setA_runStatus (s : State) (v : Byte) : (s.setA v).runStatus = s.runStatus := rfl
@[simp] theorem setA_mem (s : State) (v : Byte) : (s.setA v).mem = s.mem := rfl
@[simp] theorem setA_trace (s : State) (v : Byte) : (s.setA v).trace = s.trace := rfl
@[simp] theorem setA_env (s : State) (v : Byte) : (s.setA v).env = s.env := rfl
@[simp] theorem setA_tape (s : State) (v : Byte) : (s.setA v).tape = s.tape := rfl
@[simp] theorem setA_warnings (s : State) (v : Byte) : (s.setA v).warnings = s.warnings := rfl
@[simp] theorem setA_params (s : State) (v : Byte) : (s.setA v).params = s.params := rfl

@[simp] theorem setF_regs (s : State) (v : Byte) : (s.setF v).regs = { s.regs with f := v } := rfl
@[simp] theorem setF_shadow (s : State) (v : Byte) : (s.setF v).shadow = s.shadow := rfl
@[simp] theorem setF_pc (s : State) (v : Byte) : (s.setF v).pc = s.pc := rfl
@[simp] theorem setF_i (s : State) (v : Byte) : (s.setF v).i = s.i := rfl
@[simp] theorem setF_r (s : State) (v : Byte) : (s.setF v).r = s.r := rfl
@[simp] theorem setF_iff1 (s : State) (v : Byte) : (s.setF v).iff1 = s.iff1 := rfl
@[simp] theorem setF_iff2 (s : State) (v : Byte) : (s.setF v).iff2 = s.iff2 := rfl
@[simp] theorem setF_im (s : State) (v : Byte) : (s.setF v).im = s.im := rfl
@[simp] theorem setF_memptr (s : State) (v : Byte) : (s.setF v).memptr = s.memptr := rfl
@[simp] theorem setF_intBlocked (s : State) (v : Byte) : (s.setF v).intBlocked = s.intBlocked := rfl
@[simp] theorem setF_halted (s : State) (v : Byte) : (s.setF v).halted = s.halted := rfl
@[simp] theorem setF_t (s : State) (v : Byte) : (s.setF v).t = s.t := rfl
@[simp] theorem setF_runStatus (s : State) (v : Byte) : (s.setF v).runStatus = s.runStatus := rfl
@[simp] theorem setF_mem (s : State) (v : Byte) : (s.setF v).mem = s.mem := rfl
@[simp] theorem setF_trace (s : State) (v : Byte) : (s.setF v).trace = s.trace := rfl
@[simp] theorem setF_env (s : State) (v : Byte) : (s.setF v).env = s.env := rfl
@[simp] theorem setF_tape (s : State) (v : Byte) : (s.setF v).tape = s.tape := rfl
@[simp] theorem setF_warnings (s : State) (v : Byte) : (s.setF v).warnings = s.warnings := rfl
@[simp] theorem setF_params (s : State) (v : Byte) : (s.setF v).params = s.params := rfl

@[simp] theorem setAF_regs (s : State) (v : Byte × Byte) : (s.setAF v).regs = { s.regs with a := v.1, f := v.2 } := rfl
@[simp] theorem setAF_shadow (s : State) (v : Byte × Byte) : (s.setAF v).shadow = s.shadow := rfl
@[simp] theorem setAF_pc (s : State) (v : Byte × Byte) : (s.setAF v).pc = s.pc := rfl
@[simp] theorem setAF_i (s : State) (v : Byte × Byte) : (s.setAF v).i = s.i := rfl
@[simp] theorem setAF_r (s : State) (v : Byte × Byte) : (s.setAF v).r = s.r := rfl
@[simp] theorem setAF_iff1 (s : State) (v : Byte × Byte) : (s.setAF v).iff1 = s.iff1 := rfl
@[simp] theorem setAF_iff2 (s : State) (v : Byte × Byte) : (s.setAF v).iff2 = s.iff2 := rfl
@[simp] theorem setAF_im (s : State) (v : Byte × Byte) : (s.setAF v).im = s.im := rfl
@[simp] theorem setAF_memptr (s : State) (v : Byte × Byte) : (s.setAF v).memptr = s.memptr := rfl
@[simp] theorem setAF_intBlocked (s : State) (v : Byte × Byte) : (s.setAF v).intBlocked = s.intBlocked := rfl
@[simp] theorem setAF_halted (s : State) (v : Byte × Byte) : (s.setAF v).halted = s.halted := rfl
@[simp] theorem setAF_t (s : State) (v : Byte × Byte) : (s.setAF v).t = s.t := rfl
@[simp] theorem setAF_runStatus (s : State) (v : Byte × Byte) : (s.setAF v).runStatus = s.runStatus := rfl
@[simp] theorem setAF_mem (s : State) (v : Byte × Byte) : (s.setAF v).mem = s.mem := rfl
@[simp] theorem setAF_trace (s : State) (v : Byte × Byte) : (s.setAF v).trace = s.trace := rfl
@[simp] theorem setAF_env (s : State) (v : Byte × Byte) : (s.setAF v).env = s.env := rfl
@[simp] theorem setAF_tape (s : State) (v : Byte × Byte) : (s.setAF v).tape = s.tape := rfl
@[simp] theorem setAF_warnings (s : State) (v : Byte × Byte) : (s.setAF v).warnings = s.warnings := rfl
@[simp] theorem setAF_params (s : State) (v : Byte × Byte) : (s.setAF v).params = s.params := rfl

@[simp] theorem setSp_regs (s : State) (v : Word) : (s.setSp v).regs = { s.regs with sp := v } := rfl
@[simp] theorem setSp_shadow (s : State) (v : Word) : (s.setSp v).shadow = s.shadow := rfl
@[simp] theorem setSp_pc (s : State) (v : Word) : (s.setSp v).pc = s.pc := rfl
@[simp] theorem setSp_i (s : State) (v : Word) : (s.setSp v).i = s.i := rfl
@[simp] theorem setSp_r (s : State) (v : Word) : (s.setSp v).r = s.r := rfl
@[simp] theorem setSp_iff1 (s : State) (v : Word) : (s.setSp v).iff1 = s.iff1 := rfl
@[simp] theorem setSp_iff2 (s : State) (v : Word) : (s.setSp v).iff2 = s.iff2 := rfl
@[simp] theorem setSp_im (s : State) (v : Word) : (s.setSp v).im = s.im := rfl
@[simp] theorem setSp_memptr (s : State) (v : Word) : (s.setSp v).memptr = s.memptr := rfl
@[simp] theorem setSp_intBlocked (s : State) (v : Word) : (s.setSp v).intBlocked = s.intBlocked := rfl
@[simp] theorem setSp_halted (s : State) (v : Word) : (s.setSp v).halted = s.halted := rfl
@[simp] theorem setSp_t (s : State) (v : Word) : (s.setSp v).t = s.t := rfl
@[simp] theorem setSp_runStatus (s : State) (v : Word) : (s.setSp v).runStatus = s.runStatus := rfl
@[simp] theorem setSp_mem (s : State) (v : Word) : (s.setSp v).mem = s.mem := rfl
@[simp] theorem setSp_trace (s : State) (v : Word) : (s.setSp v).trace = s.trace := rfl
@[simp] theorem setSp_env (s : State) (v : Word) : (s.setSp v).env = s.env := rfl
@[simp] theorem setSp_tape (s : State) (v : Word) : (s.setSp v).tape = s.tape := rfl
@[simp] theorem setSp_warnings (s : State) (v : Word) : (s.setSp v).warnings = s.warnings := rfl
@[simp] theorem setSp_params (s : State) (v : Word) : (s.setSp v).params = s.params := rfl

@[simp] theorem setReg8_regs (s : State) (n : Reg8) (v : Byte) : (s.setReg8 n v).regs = s.regs.set8 n v := rfl
@[simp] theorem setReg8_shadow (s : State) (n : Reg8) (v : Byte) : (s.setReg8 n v).shadow = s.shadow := rfl
@[simp] theorem setReg8_pc (s : State) (n : Reg8) (v : Byte) : (s.setReg8 n v).pc = s.pc := rfl
@[simp] theorem setReg8_i (s : State) (n : Reg8) (v : Byte) : (s.setReg8 n v).i = s.i := rfl
@[simp] theorem setReg8_r (s : State) (n : Reg8) (v : Byte) : (s.setReg8 n v).r = s.r := rfl
@[simp] theorem setReg8_iff1 (s : State) (n : Reg8) (v : Byte) : (s.setReg8 n v).iff1 = s.iff1 := rfl
@[simp] theorem setReg8_iff2 (s : State) (n : Reg8) (v : Byte) : (s.setReg8 n v).iff2 = s.iff2 := rfl
@[simp] theorem setReg8_im (s : State) (n : Reg8) (v : Byte) : (s.setReg8 n v).im = s.im := rfl
@[simp] theorem setReg8_memptr (s : State) (n : Reg8) (v : Byte) : (s.setReg8 n v).memptr = s.memptr := rfl
@[simp] theorem setReg8_intBlocked (s : State) (n : Reg8) (v : Byte) : (s.setReg8 n v).intBlocked = s.intBlocked := rfl
@[simp] theorem setReg8_halted (s : State) (n : Reg8) (v : Byte) : (s.setReg8 n v).halted = s.halted := rfl
@[simp] theorem setReg8_t (s : State) (n : Reg8) (v : Byte) : (s.setReg8 n v).t = s.t := rfl
@[simp] theorem setReg8_runStatus (s : State) (n : Reg8) (v : Byte) : (s.setReg8 n v).runStatus = s.runStatus := rfl
@[simp] theorem setReg8_mem (s : State) (n : Reg8) (v : Byte) : (s.setReg8 n v).mem = s.mem := rfl
@[simp] theorem setReg8_trace (s : State) (n : Reg8) (v : Byte) : (s.setReg8 n v).trace = s.trace := rfl
@[simp] theorem setReg8_env (s : State) (n : Reg8) (v : Byte) : (s.setReg8 n v).env = s.env := rfl
@[simp] theorem setReg8_tape (s : State) (n : Reg8) (v : Byte) : (s.setReg8 n v).tape = s.tape := rfl
@[simp] theorem setReg8_warnings (s : State) (n : Reg8) (v : Byte) : (s.setReg8 n v).warnings = s.warnings := rfl
@[simp] theorem setReg8_params (s : State) (n : Reg8) (v : Byte) : (s.setReg8 n v).params = s.params := rfl

@[simp] theorem setIdx_regs (s : State) (x : Idx) (v : Word) : (s.setIdx x v).regs = s.regs.setIdx x v := rfl
@[simp] theorem setIdx_shadow (s : State) (x : Idx) (v : Word) : (s.setIdx x v).shadow = s.shadow := rfl
@[simp] theorem setIdx_pc (s : State) (x : Idx) (v : Word) : (s.setIdx x v).pc = s.pc := rfl
@[simp] theorem setIdx_i (s : State) (x : Idx) (v : Word) : (s.setIdx x v).i = s.i := rfl
@[simp] theorem setIdx_r (s : State) (x : Idx) (v : Word) : (s.setIdx x v).r = s.r := rfl
@[simp] theorem setIdx_iff1 (s : State) (x : Idx) (v : Word) : (s.setIdx x v).iff1 = s.iff1 := rfl
@[simp] theorem setIdx_iff2 (s : State) (x : Idx) (v : Word) : (s.setIdx x v).iff2 = s.iff2 := rfl
@[simp] theorem setIdx_im (s : State) (x : Idx) (v : Word) : (s.setIdx x v).im = s.im := rfl
@[simp] theorem setIdx_memptr (s : State) (x : Idx) (v : Word) : (s.setIdx x v).memptr = s.memptr := rfl
@[simp] theorem setIdx_intBlocked (s : State) (x : Idx) (v : Word) : (s.setIdx x v).intBlocked = s.intBlocked := rfl
@[simp] theorem setIdx_halted (s : State) (x : Idx) (v : Word) : (s.setIdx x v).halted = s.halted := rfl
@[simp] theorem setIdx_t (s : State) (x : Idx) (v : Word) : (s.setIdx x v).t = s.t := rfl
@[simp] theorem setIdx_runStatus (s : State) (x : Idx) (v : Word) : (s.setIdx x v).runStatus = s.runStatus := rfl
@[simp] theorem setIdx_mem (s : State) (x : Idx) (v : Word) : (s.setIdx x v).mem = s.mem := rfl
@[simp] theorem setIdx_trace (s : State) (x : Idx) (v : Word) : (s.setIdx x v).trace = s.trace := rfl
@[simp] theorem setIdx_env (s : State) (x : Idx) (v : Word) : (s.setIdx x v).env = s.env := rfl
@[simp] theorem setIdx_tape (s : State) (x : Idx) (v : Word) : (s.setIdx x v).tape = s.tape := rfl
@[simp] theorem setIdx_warnings (s : State) (x : Idx) (v : Word) : (s.setIdx x v).warnings = s.warnings := rfl
@[simp] theorem setIdx_params (s : State) (x : Idx) (v : Word) : (s.setIdx x v).params = s.params := rfl

@[simp] theorem setHalf_regs (s : State) (x : Idx) (h : Half) (v : Byte) : (s.setHalf x h v).regs = s.regs.setHalf x h v := rfl
@[simp] theorem setHalf_shadow (s : State) (x : Idx) (h : Half) (v : Byte) : (s.setHalf x h v).shadow = s.shadow := rfl
@[simp] theorem setHalf_pc (s : State) (x : Idx) (h : Half) (v : Byte) : (s.setHalf x h v).pc = s.pc := rfl
@[simp] theorem setHalf_i (s : State) (x : Idx) (h : Half) (v : Byte) : (s.setHalf x h v).i = s.i := rfl
@[simp] theorem setHalf_r (s : State) (x : Idx) (h : Half) (v : Byte) : (s.setHalf x h v).r = s.r := rfl
@[simp] theorem setHalf_iff1 (s : State) (x : Idx) (h : Half) (v : Byte) : (s.setHalf x h v).iff1 = s.iff1 := rfl
@[simp] theorem setHalf_iff2 (s : State) (x : Idx) (h : Half) (v : Byte) : (s.setHalf x h v).iff2 = s.iff2 := rfl
@[simp] theorem setHalf_im (s : State) (x : Idx) (h : Half) (v : Byte) : (s.setHalf x h v).im = s.im := rfl
@[simp] theorem setHalf_memptr (s : State) (x : Idx) (h : Half) (v : Byte) : (s.setHalf x h v).memptr = s.memptr := rfl
@[simp] theorem setHalf_intBlocked (s : State) (x : Idx) (h : Half) (v : Byte) : (s.setHalf x h v).intBlocked = s.intBlocked := rfl
@[simp] theorem setHalf_halted (s : State) (x : Idx) (h : Half) (v : Byte) : (s.setHalf x h v).halted = s.halted := rfl
@[simp] theorem setHalf_t (s : State) (x : Idx) (h : Half) (v : Byte) : (s.setHalf x h v).t = s.t := rfl
@[simp] theorem setHalf_runStatus (s : State) (x : Idx) (h : Half) (v : Byte) : (s.setHalf x h v).runStatus = s.runStatus := rfl
@[simp] theorem setHalf_mem (s : State) (x : Idx) (h : Half) (v : Byte) : (s.setHalf x h v).mem = s.mem := rfl
@[simp] theorem setHalf_trace (s : State) (x : Idx) (h : Half) (v : Byte) : (s.setHalf x h v).trace = s.trace := rfl
@[simp] theorem setHalf_env (s : State) (x : Idx) (h : Half) (v : Byte) : (s.setHalf x h v).env = s.env := rfl
@[simp] theorem setHalf_tape (s : State) (x : Idx) (h : Half) (v : Byte) : (s.setHalf x h v).tape = s.tape := rfl
@[simp] theorem setHalf_warnings (s : State) (x : Idx) (h : Half) (v : Byte) : (s.setHalf x h v).warnings = s.warnings := rfl
@[simp] theorem setHalf_params (s : State) (x : Idx) (h : Half) (v : Byte) : (s.setHalf x h v).params = s.params := rfl

@[simp] theorem setX_regs (s : State) (x : Idx) (n : RegX) (v : Byte) : (s.setX x n v).regs = s.regs.setX x n v := rfl
@[simp] theorem setX_shadow (s : State) (x : Idx) (n : RegX) (v : Byte) : (s.setX x n v).shadow = s.shadow := rfl
@[simp] theorem setX_pc (s : State) (x : Idx) (n : RegX) (v : Byte) : (s.setX x n v).pc = s.pc := rfl
@[simp] theorem setX_i (s : State) (x : Idx) (n : RegX) (v : Byte) : (s.setX x n v).i = s.i := rfl
@[simp] theorem setX_r (s : State) (x : Idx) (n : RegX) (v : Byte) : (s.setX x n v).r = s.r := rfl
@[simp] theorem setX_iff1 (s : State) (x : Idx) (n : RegX) (v : Byte) : (s.setX x n v).iff1 = s.iff1 := rfl
@[simp] theorem setX_iff2 (s : State) (x : Idx) (n : RegX) (v : Byte) : (s.setX x n v).iff2 = s.iff2 := rfl
@[simp] theorem setX_im (s : State) (x : Idx) (n : RegX) (v : Byte) : (s.setX x n v).im = s.im := rfl
@[simp] theorem setX_memptr (s : State) (x : Idx) (n : RegX) (v : Byte) : (s.setX x n v).memptr = s.memptr := rfl
@[simp] theorem setX_intBlocked (s : State) (x : Idx) (n : RegX) (v : Byte) : (s.setX x n v).intBlocked = s.intBlocked := rfl
@[simp] theorem setX_halted (s : State) (x : Idx) (n : RegX) (v : Byte) : (s.setX x n v).halted = s.halted := rfl
@[simp] theorem setX_t (s : State) (x : Idx) (n : RegX) (v : Byte) : (s.setX x n v).t = s.t := rfl
@[simp] theorem setX_runStatus (s : State) (x : Idx) (n : RegX) (v : Byte) : (s.setX x n v).runStatus = s.runStatus := rfl
@[simp] theorem setX_mem (s : State) (x : Idx) (n : RegX) (v : Byte) : (s.setX x n v).mem = s.mem := rfl
@[simp] theorem setX_trace (s : State) (x : Idx) (n : RegX) (v : Byte) : (s.setX x n v).trace = s.trace := rfl
@[simp] theorem setX_env (s : State) (x : Idx) (n : RegX) (v : Byte) : (s.setX x n v).env = s.env := rfl
@[simp] theorem setX_tape (s : State) (x : Idx) (n : RegX) (v : Byte) : (s.setX x n v).tape = s.tape := rfl
@[simp] theorem setX_warnings (s : State) (x : Idx) (n : RegX) (v : Byte) : (s.setX x n v).warnings = s.warnings := rfl
@[simp] theorem setX_params (s : State) (x : Idx) (n : RegX) (v : Byte) : (s.setX x n v).params = s.params := rfl

@[simp] theorem setPair_regs (s : State) (p : Pair) (v : Word) : (s.setPair p v).regs = s.regs.setPair p v := rfl
@[simp] theorem setPair_shadow (s : State) (p : Pair) (v : Word) : (s.setPair p v).shadow = s.shadow := rfl
@[simp] theorem setPair_pc (s : State) (p : Pair) (v : Word) : (s.setPair p v).pc = s.pc := rfl
@[simp] theorem setPair_i (s : State) (p : Pair) (v : Word) : (s.setPair p v).i = s.i := rfl
@[simp] theorem setPair_r (s : State) (p : Pair) (v : Word) : (s.setPair p v).r = s.r := rfl
@[simp] theorem setPair_iff1 (s : State) (p : Pair) (v : Word) : (s.setPair p v).iff1 = s.iff1 := rfl
@[simp] theorem setPair_iff2 (s : State) (p : Pair) (v : Word) : (s.setPair p v).iff2 = s.iff2 := rfl
@[simp] theorem setPair_im (s : State) (p : Pair) (v : Word) : (s.setPair p v).im = s.im := rfl
@[simp] theorem setPair_memptr (s : State) (p : Pair) (v : Word) : (s.setPair p v).memptr = s.memptr := rfl
@[simp] theorem setPair_intBlocked (s : State) (p : Pair) (v : Word) : (s.setPair p v).intBlocked = s.intBlocked := rfl
@[simp] theorem setPair_halted (s : State) (p : Pair) (v : Word) : (s.setPair p v).halted = s.halted := rfl
@[simp] theorem setPair_t (s : State) (p : Pair) (v : Word) : (s.setPair p v).t = s.t := rfl
@[simp] theorem setPair_runStatus (s : State) (p : Pair) (v : Word) : (s.setPair p v).runStatus = s.runStatus := rfl
@[simp] theorem setPair_mem (s : State) (p : Pair) (v : Word) : (s.setPair p v).mem = s.mem := rfl
@[simp] theorem setPair_trace (s : State) (p : Pair) (v : Word) : (s.setPair p v).trace = s.trace := rfl
@[simp] theorem setPair_env (s : State) (p : Pair) (v : Word) : (s.setPair p v).env = s.env := rfl
@[simp] theorem setPair_tape (s : State) (p : Pair) (v : Word) : (s.setPair p v).tape = s.tape := rfl
@[simp] theorem setPair_warnings (s : State) (p : Pair) (v : Word) : (s.setPair p v).warnings = s.warnings := rfl
@[simp] theorem setPair_params (s : State) (p : Pair) (v : Word) : (s.setPair p v).params = s.params := rfl

@[simp] theorem setPairQ_regs (s : State) (p : PairQ) (v : Word) : (s.setPairQ p v).regs = s.regs.setPairQ p v := rfl
@[simp] theorem setPairQ_shadow (s : State) (p : PairQ) (v : Word) : (s.setPairQ p v).shadow = s.shadow := rfl
@[simp] theorem setPairQ_pc (s : State) (p : PairQ) (v : Word) : (s.setPairQ p v).pc = s.pc := rfl
@[simp] theorem setPairQ_i (s : State) (p : PairQ) (v : Word) : (s.setPairQ p v).i = s.i := rfl
@[simp] theorem setPairQ_r (s : State) (p : PairQ) (v : Word) : (s.setPairQ p v).r = s.r := rfl
@[simp] theorem setPairQ_iff1 (s : State) (p : PairQ) (v : Word) : (s.setPairQ p v).iff1 = s.iff1 := rfl
@[simp] theorem setPairQ_iff2 (s : State) (p : PairQ) (v : Word) : (s.setPairQ p v).iff2 = s.iff2 := rfl
@[simp] theorem setPairQ_im (s : State) (p : PairQ) (v : Word) : (s.setPairQ p v).im = s.im := rfl
@[simp] theorem setPairQ_memptr (s : State) (p : PairQ) (v : Word) : (s.setPairQ p v).memptr = s.memptr := rfl
@[simp] theorem setPairQ_intBlocked (s : State) (p : PairQ) (v : Word) : (s.setPairQ p v).intBlocked = s.intBlocked := rfl
@[simp] theorem setPairQ_halted (s : State) (p : PairQ) (v : Word) : (s.setPairQ p v).halted = s.halted := rfl
@[simp] theorem setPairQ_t (s : State) (p : PairQ) (v : Word) : (s.setPairQ p v).t = s.t := rfl
@[simp] theorem setPairQ_runStatus (s : State) (p : PairQ) (v : Word) : (s.setPairQ p v).runStatus = s.runStatus := rfl
@[simp] theorem setPairQ_mem (s : State) (p : PairQ) (v : Word) : (s.setPairQ p v).mem = s.mem := rfl
@[simp] theorem setPairQ_trace (s : State) (p : PairQ) (v : Word) : (s.setPairQ p v).trace = s.trace := rfl
@[simp] theorem setPairQ_env (s : State) (p : PairQ) (v : Word) : (s.setPairQ p v).env = s.env := rfl
@[simp] theorem setPairQ_tape (s : State) (p : PairQ) (v : Word) : (s.setPairQ p v).tape = s.tape := rfl
@[simp] theorem setPairQ_warnings (s : State) (p : PairQ) (v : Word) : (s.setPairQ p v).warnings = s.warnings := rfl
@[simp] theorem setPairQ_params (s : State) (p : PairQ) (v : Word) : (s.setPairQ p v).params = s.params := rfl

@[simp] theorem setBc_regs (s : State) (v : Word) : (s.setBc v).regs = s.regs.setBc v := rfl
@[simp] theorem setBc_shadow (s : State) (v : Word) : (s.setBc v).shadow = s.shadow := rfl
@[simp] theorem setBc_pc (s : State) (v : Word) : (s.setBc v).pc = s.pc := rfl
@[simp] theorem setBc_i (s : State) (v : Word) : (s.setBc v).i = s.i := rfl
@[simp] theorem setBc_r (s : State) (v : Word) : (s.setBc v).r = s.r := rfl
@[simp] theorem setBc_iff1 (s : State) (v : Word) : (s.setBc v).iff1 = s.iff1 := rfl
@[simp] theorem setBc_iff2 (s : State) (v : Word) : (s.setBc v).iff2 = s.iff2 := rfl
@[simp] theorem setBc_im (s : State) (v : Word) : (s.setBc v).im = s.im := rfl
@[simp] theorem setBc_memptr (s : State) (v : Word) : (s.setBc v).memptr = s.memptr := rfl
@[simp] theorem setBc_intBlocked (s : State) (v : Word) : (s.setBc v).intBlocked = s.intBlocked := rfl
@[simp] theorem setBc_halted (s : State) (v : Word) : (s.setBc v).halted = s.halted := rfl
@[simp] theorem setBc_t (s : State) (v : Word) : (s.setBc v).t = s.t := rfl
@[simp] theorem setBc_runStatus (s : State) (v : Word) : (s.setBc v).runStatus = s.runStatus := rfl
@[simp] theorem setBc_mem (s : State) (v : Word) : (s.setBc v).mem = s.mem := rfl
@[simp] theorem setBc_trace (s : State) (v : Word) : (s.setBc v).trace = s.trace := rfl
@[simp] theorem setBc_env (s : State) (v : Word) : (s.setBc v).env = s.env := rfl
@[simp] theorem setBc_tape (s : State) (v : Word) : (s.setBc v).tape = s.tape := rfl
@[simp] theorem setBc_warnings (s : State) (v : Word) : (s.setBc v).warnings = s.warnings := rfl
@[simp] theorem setBc_params (s : State) (v : Word) : (s.setBc v).params = s.params := rfl

@[simp] theorem setDe_regs (s : State) (v : Word) : (s.setDe v).regs = s.regs.setDe v := rfl
@[simp] theorem setDe_shadow (s : State) (v : Word) : (s.setDe v).shadow = s.shadow := rfl
@[simp] theorem setDe_pc (s : State) (v : Word) : (s.setDe v).pc = s.pc := rfl
@[simp] theorem setDe_i (s : State) (v : Word) : (s.setDe v).i = s.i := rfl
@[simp] theorem setDe_r (s : State) (v : Word) : (s.setDe v).r = s.r := rfl
@[simp] theorem setDe_iff1 (s : State) (v : Word) : (s.setDe v).iff1 = s.iff1 := rfl
@[simp] theorem setDe_iff2 (s : State) (v : Word) : (s.setDe v).iff2 = s.iff2 := rfl
@[simp] theorem setDe_im (s : State) (v : Word) : (s.setDe v).im = s.im := rfl
@[simp] theorem setDe_memptr (s : State) (v : Word) : (s.setDe v).memptr = s.memptr := rfl
@[simp] theorem setDe_intBlocked (s : State) (v : Word) : (s.setDe v).intBlocked = s.intBlocked := rfl
@[simp] theorem setDe_halted (s : State) (v : Word) : (s.setDe v).halted = s.halted := rfl
@[simp] theorem setDe_t (s : State) (v : Word) : (s.setDe v).t = s.t := rfl
@[simp] theorem setDe_runStatus (s : State) (v : Word) : (s.setDe v).runStatus = s.runStatus := rfl
@[simp] theorem setDe_mem (s : State) (v : Word) : (s.setDe v).mem = s.mem := rfl
@[simp] theorem setDe_trace (s : State) (v : Word) : (s.setDe v).trace = s.trace := rfl
@[simp] theorem setDe_env (s : State) (v : Word) : (s.setDe v).env = s.env := rfl
@[simp] theorem setDe_tape (s : State) (v : Word) : (s.setDe v).tape = s.tape := rfl
@[simp] theorem setDe_warnings (s : State) (v : Word) : (s.setDe v).warnings = s.warnings := rfl
@[simp] theorem setDe_params (s : State) (v : Word) : (s.setDe v).params = s.params := rfl

@[simp] theorem setHl_regs (s : State) (v : Word) : (s.setHl v).regs = s.regs.setHl v := rfl
@[simp] theorem setHl_shadow (s : State) (v : Word) : (s.setHl v).shadow = s.shadow := rfl
@[simp] theorem setHl_pc (s : State) (v : Word) : (s.setHl v).pc = s.pc := rfl
@[simp] theorem setHl_i (s : State) (v : Word) : (s.setHl v).i = s.i := rfl
@[simp] theorem setHl_r (s : State) (v : Word) : (s.setHl v).r = s.r := rfl
@[simp] theorem setHl_iff1 (s : State) (v : Word) : (s.setHl v).iff1 = s.iff1 := rfl
@[simp] theorem setHl_iff2 (s : State) (v : Word) : (s.setHl v).iff2 = s.iff2 := rfl
@[simp] theorem setHl_im (s : State) (v : Word) : (s.setHl v).im = s.im := rfl
@[simp] theorem setHl_memptr (s : State) (v : Word) : (s.setHl v).memptr = s.memptr := rfl
@[simp] theorem setHl_intBlocked (s : State) (v : Word) : (s.setHl v).intBlocked = s.intBlocked := rfl
@[simp] theorem setHl_halted (s : State) (v : Word) : (s.setHl v).halted = s.halted := rfl
@[simp] theorem setHl_t (s : State) (v : Word) : (s.setHl v).t = s.t := rfl
@[simp] theorem setHl_runStatus (s : State) (v : Word) : (s.setHl v).runStatus = s.runStatus := rfl
@[simp] theorem setHl_mem (s : State) (v : Word) : (s.setHl v).mem = s.mem := rfl
@[simp] theorem setHl_trace (s : State) (v : Word) : (s.setHl v).trace = s.trace := rfl
@[simp] theorem setHl_env (s : State) (v : Word) : (s.setHl v).env = s.env := rfl
@[simp] theorem setHl_tape (s : State) (v : Word) : (s.setHl v).tape = s.tape := rfl
@[simp] theorem setHl_warnings (s : State) (v : Word) : (s.setHl v).warnings = s.warnings := rfl
@[simp] theorem setHl_params (s : State) (v : Word) : (s.setHl v).params = s.params := rfl

@[simp] theorem setPc_regs (s : State) (v : Word) : (s.setPc v).regs = s.regs := rfl
@[simp] theorem setPc_shadow (s : State) (v : Word) : (s.setPc v).shadow = s.shadow := rfl
@[simp] theorem setPc_pc (s : State) (v : Word) : (s.setPc v).pc = v := rfl
@[simp] theorem setPc_i (s : State) (v : Word) : (s.setPc v).i = s.i := rfl
@[simp] theorem setPc_r (s : State) (v : Word) : (s.setPc v).r = s.r := rfl
@[simp] theorem setPc_iff1 (s : State) (v : Word) : (s.setPc v).iff1 = s.iff1 := rfl
@[simp] theorem setPc_iff2 (s : State) (v : Word) : (s.setPc v).iff2 = s.iff2 := rfl
@[simp] theorem setPc_im (s : State) (v : Word) : (s.setPc v).im = s.im := rfl
@[simp] theorem setPc_memptr (s : State) (v : Word) : (s.setPc v).memptr = s.memptr := rfl
@[simp] theorem setPc_intBlocked (s : State) (v : Word) : (s.setPc v).intBlocked = s.intBlocked := rfl
@[simp] theorem setPc_halted (s : State) (v : Word) : (s.setPc v).halted = s.halted := rfl
@[simp] theorem setPc_t (s : State) (v : Word) : (s.setPc v).t = s.t := rfl
@[simp] theorem setPc_runStatus (s : State) (v : Word) : (s.setPc v).runStatus = s.runStatus := rfl
@[simp] theorem setPc_mem (s : State) (v : Word) : (s.setPc v).mem = s.mem := rfl
@[simp] theorem setPc_trace (s : State) (v : Word) : (s.setPc v).trace = s.trace := rfl
@[simp] theorem setPc_env (s : State) (v : Word) : (s.setPc v).env = s.env := rfl
@[simp] theorem setPc_tape (s : State) (v : Word) : (s.setPc v).tape = s.tape := rfl
@[simp] theorem setPc_warnings (s : State) (v : Word) : (s.setPc v).warnings = s.warnings := rfl
@[simp] theorem setPc_params (s : State) (v : Word) : (s.setPc v).params = s.params := rfl

@[simp] theorem setMemptr_regs (s : State) (v : Word) : (s.setMemptr v).regs = s.regs := rfl
@[simp] theorem setMemptr_shadow (s : State) (v : Word) : (s.setMemptr v).shadow = s.shadow := rfl
@[simp] theorem setMemptr_pc (s : State) (v : Word) : (s.setMemptr v).pc = s.pc := rfl
@[simp] theorem setMemptr_i (s : State) (v : Word) : (s.setMemptr v).i = s.i := rfl
@[simp] theorem setMemptr_r (s : State) (v : Word) : (s.setMemptr v).r = s.r := rfl
@[simp] theorem setMemptr_iff1 (s : State) (v : Word) : (s.setMemptr v).iff1 = s.iff1 := rfl
@[simp] theorem setMemptr_iff2 (s : State) (v : Word) : (s.setMemptr v).iff2 = s.iff2 := rfl
@[simp] theorem setMemptr_im (s : State) (v : Word) : (s.setMemptr v).im = s.im := rfl
@[simp] theorem setMemptr_memptr (s : State) (v : Word) : (s.setMemptr v).memptr = v := rfl
@[simp] theorem setMemptr_intBlocked (s : State) (v : Word) : (s.setMemptr v).intBlocked = s.intBlocked := rfl
@[simp] theorem setMemptr_halted (s : State) (v : Word) : (s.setMemptr v).halted = s.halted := rfl
@[simp] theorem setMemptr_t (s : State) (v : Word) : (s.setMemptr v).t = s.t := rfl
@[simp] theorem setMemptr_runStatus (s : State) (v : Word) : (s.setMemptr v).runStatus = s.runStatus := rfl
@[simp] theorem setMemptr_mem (s : State) (v : Word) : (s.setMemptr v).mem = s.mem := rfl
@[simp] theorem setMemptr_trace (s : State) (v : Word) : (s.setMemptr v).trace = s.trace := rfl
@[simp] theorem setMemptr_env (s : State) (v : Word) : (s.setMemptr v).env = s.env := rfl
@[simp] theorem setMemptr_tape (s : State) (v : Word) : (s.setMemptr v).tape = s.tape := rfl
@[simp] theorem setMemptr_warnings (s : State) (v : Word) : (s.setMemptr v).warnings = s.warnings := rfl
@[simp] theorem setMemptr_params (s : State) (v : Word) : (s.setMemptr v).params = s.params := rfl

@[simp] theorem addT_regs (s : State) (n : Nat) : (s.addT n).regs = s.regs := rfl
@[simp] theorem addT_shadow (s : State) (n : Nat) : (s.addT n).shadow = s.shadow := rfl
@[simp] theorem addT_pc (s : State) (n : Nat) : (s.addT n).pc = s.pc := rfl
@[simp] theorem addT_i (s : State) (n : Nat) : (s.addT n).i = s.i := rfl
@[simp] theorem addT_r (s : State) (n : Nat) : (s.addT n).r = s.r := rfl
@[simp] theorem addT_iff1 (s : State) (n : Nat) : (s.addT n).iff1 = s.iff1 := rfl
@[simp] theorem addT_iff2 (s : State) (n : Nat) : (s.addT n).iff2 = s.iff2 := rfl
@[simp] theorem addT_im (s : State) (n : Nat) : (s.addT n).im = s.im := rfl
@[simp] theorem addT_memptr (s : State) (n : Nat) : (s.addT n).memptr = s.memptr := rfl
@[simp] theorem addT_intBlocked (s : State) (n : Nat) : (s.addT n).intBlocked = s.intBlocked := rfl
@[simp] theorem addT_halted (s : State) (n : Nat) : (s.addT n).halted = s.halted := rfl
@[simp] theorem addT_t (s : State) (n : Nat) : (s.addT n).t = s.t + n := rfl
@[simp] theorem addT_runStatus (s : State) (n : Nat) : (s.addT n).runStatus = s.runStatus := rfl
@[simp] theorem addT_mem (s : State) (n : Nat) : (s.addT n).mem = s.mem := rfl
@[simp] theorem addT_trace (s : State) (n : Nat) : (s.addT n).trace = s.trace := rfl
@[simp] theorem addT_env (s : State) (n : Nat) : (s.addT n).env = s.env := rfl
@[simp] theorem addT_tape (s : State) (n : Nat) : (s.addT n).tape = s.tape := rfl
@[simp] theorem addT_warnings (s : State) (n : Nat) : (s.addT n).warnings = s.warnings := rfl
@[simp] theorem addT_params (s : State) (n : Nat) : (s.addT n).params = s.params := rfl

@[simp] theorem rInc_regs (s : State) (n : Nat) : (s.rInc n).regs = s.regs := rfl
@[simp] theorem rInc_shadow (s : State) (n : Nat) : (s.rInc n).shadow = s.shadow := rfl
@[simp] theorem rInc_pc (s : State) (n : Nat) : (s.rInc n).pc = s.pc := rfl
@[simp] theorem rInc_i (s : State) (n : Nat) : (s.rInc n).i = s.i := rfl
@[simp] theorem rInc_r (s : State) (n : Nat) : (s.rInc n).r = BitVec.ofNat 8 (s.r.toNat / 128 * 128 + (s.r.toNat % 128 + n) % 128) := rfl
@[simp] theorem rInc_iff1 (s : State) (n : Nat) : (s.rInc n).iff1 = s.iff1 := rfl
@[simp] theorem rInc_iff2 (s : State) (n : Nat) : (s.rInc n).iff2 = s.iff2 := rfl
@[simp] theorem rInc_im (s : State) (n : Nat) : (s.rInc n).im = s.im := rfl
@[simp] theorem rInc_memptr (s : State) (n : Nat) : (s.rInc n).memptr = s.memptr := rfl
@[simp] theorem rInc_intBlocked (s : State) (n : Nat) : (s.rInc n).intBlocked = s.intBlocked := rfl
@[simp] theorem rInc_halted (s : State) (n : Nat) : (s.rInc n).halted = s.halted := rfl
@[simp] theorem rInc_t (s : State) (n : Nat) : (s.rInc n).t = s.t := rfl
@[simp] theorem rInc_runStatus (s : State) (n : Nat) : (s.rInc n).runStatus = s.runStatus := rfl
@[simp] theorem rInc_mem (s : State) (n : Nat) : (s.rInc n).mem = s.mem := rfl
@[simp] theorem rInc_trace (s : State) (n : Nat) : (s.rInc n).trace = s.trace := rfl
@[simp] theorem rInc_env (s : State) (n : Nat) : (s.rInc n).env = s.env := rfl
@[simp] theorem rInc_tape (s : State) (n : Nat) : (s.rInc n).tape = s.tape := rfl
@[simp] theorem rInc_warnings (s : State) (n : Nat) : (s.rInc n).warnings = s.warnings := rfl
@[simp] theorem rInc_params (s : State) (n : Nat) : (s.rInc n).params = s.params := rfl

@[simp] theorem jump_regs (s : State) (v : Word) : (s.jump v).regs = s.regs := rfl
@[simp] theorem jump_shadow (s : State) (v : Word) : (s.jump v).shadow = s.shadow := rfl
@[simp] theorem jump_pc (s : State) (v : Word) : (s.jump v).pc = v := rfl
@[simp] theorem jump_i (s : State) (v : Word) : (s.jump v).i = s.i := rfl
@[simp] theorem jump_r (s : State) (v : Word) : (s.jump v).r = s.r := rfl
@[simp] theorem jump_iff1 (s : State) (v : Word) : (s.jump v).iff1 = s.iff1 := rfl
@[simp] theorem jump_iff2 (s : State) (v : Word) : (s.jump v).iff2 = s.iff2 := rfl
@[simp] theorem jump_im (s : State) (v : Word) : (s.jump v).im = s.im := rfl
@[simp] theorem jump_memptr (s : State) (v : Word) : (s.jump v).memptr = v := rfl
@[simp] theorem jump_intBlocked (s : State) (v : Word) : (s.jump v).intBlocked = s.intBlocked := rfl
@[simp] theorem jump_halted (s : State) (v : Word) : (s.jump v).halted = s.halted := rfl
@[simp] theorem jump_t (s : State) (v : Word) : (s.jump v).t = s.t := rfl
@[simp] theorem jump_runStatus (s : State) (v : Word) : (s.jump v).runStatus = s.runStatus := rfl
@[simp] theorem jump_mem (s : State) (v : Word) : (s.jump v).mem = s.mem := rfl
@[simp] theorem jump_trace (s : State) (v : Word) : (s.jump v).trace = s.trace := rfl
@[simp] theorem jump_env (s : State) (v : Word) : (s.jump v).env = s.env := rfl
@[simp] theorem jump_tape (s : State) (v : Word) : (s.jump v).tape = s.tape := rfl
@[simp] theorem jump_warnings (s : State) (v : Word) : (s.jump v).warnings = s.warnings := rfl
@[simp] theorem jump_params (s : State) (v : Word) : (s.jump v).params = s.params := rfl

@[simp] theorem afterPop_regs (s : State) : (s.afterPop).regs = { s.regs with sp := s.regs.sp + 2 } := rfl
@[simp] theorem afterPop_shadow (s : State) : (s.afterPop).shadow = s.shadow := rfl
@[simp] theorem afterPop_pc (s : State) : (s.afterPop).pc = s.pc := rfl
@[simp] theorem afterPop_i (s : State) : (s.afterPop).i = s.i := rfl
@[simp] theorem afterPop_r (s : State) : (s.afterPop).r = s.r := rfl
@[simp] theorem afterPop_iff1 (s : State) : (s.afterPop).iff1 = s.iff1 := rfl
@[simp] theorem afterPop_iff2 (s : State) : (s.afterPop).iff2 = s.iff2 := rfl
@[simp] theorem afterPop_im (s : State) : (s.afterPop).im = s.im := rfl
@[simp] theorem afterPop_memptr (s : State) : (s.afterPop).memptr = s.memptr := rfl
@[simp] theorem afterPop_intBlocked (s : State) : (s.afterPop).intBlocked = s.intBlocked := rfl
@[simp] theorem afterPop_halted (s : State) : (s.afterPop).halted = s.halted := rfl
@[simp] theorem afterPop_t (s : State) : (s.afterPop).t = s.t := rfl
@[simp] theorem afterPop_runStatus (s : State) : (s.afterPop).runStatus = s.runStatus := rfl
@[simp] theorem afterPop_mem (s : State) : (s.afterPop).mem = s.mem := rfl
@[simp] theorem afterPop_trace (s : State) : (s.afterPop).trace = s.trace := rfl
@[simp] theorem afterPop_env (s : State) : (s.afterPop).env = s.env := rfl
@[simp] theorem afterPop_tape (s : State) : (s.afterPop).tape = s.tape := rfl
@[simp] theorem afterPop_warnings (s : State) : (s.afterPop).warnings = s.warnings := rfl
@[simp] theorem afterPop_params (s : State) : (s.afterPop).params = s.params := rfl

@[simp] theorem write_regs (s : State) (a : Word) (v : Byte) : (s.write a v).regs = s.regs := by unfold State.write; split <;> rfl
@[simp] theorem write_shadow (s : State) (a : Word) (v : Byte) : (s.write a v).shadow = s.shadow := by unfold State.write; split <;> rfl
@[simp] theorem write_pc (s : State) (a : Word) (v : Byte) : (s.write a v).pc = s.pc := by unfold State.write; split <;> rfl
@[simp] theorem write_i (s : State) (a : Word) (v : Byte) : (s.write a v).i = s.i := by unfold State.write; split <;> rfl
@[simp] theorem write_r (s : State) (a : Word) (v : Byte) : (s.write a v).r = s.r := by unfold State.write; split <;> rfl
@[simp] theorem write_iff1 (s : State) (a : Word) (v : Byte) : (s.write a v).iff1 = s.iff1 := by unfold State.write; split <;> rfl
@[simp] theorem write_iff2 (s : State) (a : Word) (v : Byte) : (s.write a v).iff2 = s.iff2 := by unfold State.write; split <;> rfl
@[simp] theorem write_im (s : State) (a : Word) (v : Byte) : (s.write a v).im = s.im := by unfold State.write; split <;> rfl
@[simp] theorem write_memptr (s : State) (a : Word) (v : Byte) : (s.write a v).memptr = s.memptr := by unfold State.write; split <;> rfl
@[simp] theorem write_intBlocked (s : State) (a : Word) (v : Byte) : (s.write a v).intBlocked = s.intBlocked := by unfold State.write; split <;> rfl
@[simp] theorem write_halted (s : State) (a : Word) (v : Byte) : (s.write a v).halted = s.halted := by unfold State.write; split <;> rfl
@[simp] theorem write_t (s : State) (a : Word) (v : Byte) : (s.write a v).t = s.t := by unfold State.write; split <;> rfl
@[simp] theorem write_runStatus (s : State) (a : Word) (v : Byte) : (s.write a v).runStatus = s.runStatus := by unfold State.write; split <;> rfl
@[simp] theorem write_trace (s : State) (a : Word) (v : Byte) : (s.write a v).trace = s.trace := by unfold State.write; split <;> rfl
@[simp] theorem write_env (s : State) (a : Word) (v : Byte) : (s.write a v).env = s.env := by unfold State.write; split <;> rfl
@[simp] theorem write_tape (s : State) (a : Word) (v : Byte) : (s.write a v).tape = s.tape := by unfold State.write; split <;> rfl
@[simp] theorem write_warnings (s : State) (a : Word) (v : Byte) : (s.write a v).warnings = s.warnings := by unfold State.write; split <;> rfl
@[simp] theorem write_params (s : State) (a : Word) (v : Byte) : (s.write a v).params = s.params := by unfold State.write; split <;> rfl

@[simp] theorem write16_regs (s : State) (a v : Word) : (s.write16 a v).regs = s.regs := by simp [State.write16]
@[simp] theorem write16_shadow (s : State) (a v : Word) : (s.write16 a v).shadow = s.shadow := by simp [State.write16]
@[simp] theorem write16_pc (s : State) (a v : Word) : (s.write16 a v).pc = s.pc := by simp [State.write16]
@[simp] theorem write16_i (s : State) (a v : Word) : (s.write16 a v).i = s.i := by simp [State.write16]
@[simp] theorem write16_r (s : State) (a v : Word) : (s.write16 a v).r = s.r := by simp [State.write16]
@[simp] theorem write16_iff1 (s : State) (a v : Word) : (s.write16 a v).iff1 = s.iff1 := by simp [State.write16]
@[simp] theorem write16_iff2 (s : State) (a v : Word) : (s.write16 a v).iff2 = s.iff2 := by simp [State.write16]
@[simp] theorem write16_im (s : State) (a v : Word) : (s.write16 a v).im = s.im := by simp [State.write16]
@[simp] theorem write16_memptr (s : State) (a v : Word) : (s.write16 a v).memptr = s.memptr := by simp [State.write16]
@[simp] theorem write16_intBlocked (s : State) (a v : Word) : (s.write16 a v).intBlocked = s.intBlocked := by simp [State.write16]
@[simp] theorem write16_halted (s : State) (a v : Word) : (s.write16 a v).halted = s.halted := by simp [State.write16]
@[simp] theorem write16_t (s : State) (a v : Word) : (s.write16 a v).t = s.t := by simp [State.write16]
@[simp] theorem write16_runStatus (s : State) (a v : Word) : (s.write16 a v).runStatus = s.runStatus := by simp [State.write16]
@[simp] theorem write16_trace (s : State) (a v : Word) : (s.write16 a v).trace = s.trace := by simp [State.write16]
@[simp] theorem write16_env (s : State) (a v : Word) : (s.write16 a v).env = s.env := by simp [State.write16]
@[simp] theorem write16_tape (s : State) (a v : Word) : (s.write16 a v).tape = s.tape := by simp [State.write16]
@[simp] theorem write16_warnings (s : State) (a v : Word) : (s.write16 a v).warnings = s.warnings := by simp [State.write16]
@[simp] theorem write16_params (s : State) (a v : Word) : (s.write16 a v).params = s.params := by simp [State.write16]

@[simp] theorem push_regs (s : State) (v : Word) : (s.push v).regs = { s.regs with sp := s.regs.sp - 2 } := by simp [State.push]
@[simp] theorem push_shadow (s : State) (v : Word) : (s.push v).shadow = s.shadow := by simp [State.push]
@[simp] theorem push_pc (s : State) (v : Word) : (s.push v).pc = s.pc := by simp [State.push]
@[simp] theorem push_i (s : State) (v : Word) : (s.push v).i = s.i := by simp [State.push]
@[simp] theorem push_r (s : State) (v : Word) : (s.push v).r = s.r := by simp [State.push]
@[simp] theorem push_iff1 (s : State) (v : Word) : (s.push v).iff1 = s.iff1 := by simp [State.push]
@[simp] theorem push_iff2 (s : State) (v : Word) : (s.push v).iff2 = s.iff2 := by simp [State.push]
@[simp] theorem push_im (s : State) (v : Word) : (s.push v).im = s.im := by simp [State.push]
@[simp] theorem push_memptr (s : State) (v : Word) : (s.push v).memptr = s.memptr := by simp [State.push]
@[simp] theorem push_intBlocked (s : State) (v : Word) : (s.push v).intBlocked = s.intBlocked := by simp [State.push]
@[simp] theorem push_halted (s : State) (v : Word) : (s.push v).halted = s.halted := by simp [State.push]
@[simp] theorem push_t (s : State) (v : Word) : (s.push v).t = s.t := by simp [State.push]
@[simp] theorem push_runStatus (s : State) (v : Word) : (s.push v).runStatus = s.runStatus := by simp [State.push]
@[simp] theorem push_trace (s : State) (v : Word) : (s.push v).trace = s.trace := by simp [State.push]
@[simp] theorem push_env (s : State) (v : Word) : (s.push v).env = s.env := by simp [State.push]
@[simp] theorem push_tape (s : State) (v : Word) : (s.push v).tape = s.tape := by simp [State.push]
@[simp] theorem push_warnings (s : State) (v : Word) : (s.push v).warnings = s.warnings := by simp [State.push]
@[simp] theorem push_params (s : State) (v : Word) : (s.push v).params = s.params := by simp [State.push]

@[simp] theorem tracerCall_regs (s : State) (n : Nat) : (s.tracerCall n).regs = s.regs := by unfold State.tracerCall; split <;> rfl
@[simp] theorem tracerCall_shadow (s : State) (n : Nat) : (s.tracerCall n).shadow = s.shadow := by unfold State.tracerCall; split <;> rfl
@[simp] theorem tracerCall_pc (s : State) (n : Nat) : (s.tracerCall n).pc = s.pc := by unfold State.tracerCall; split <;> rfl
@[simp] theorem tracerCall_i (s : State) (n : Nat) : (s.tracerCall n).i = s.i := by unfold State.tracerCall; split <;> rfl
@[simp] theorem tracerCall_r (s : State) (n : Nat) : (s.tracerCall n).r = s.r := by unfold State.tracerCall; split <;> rfl
@[simp] theorem tracerCall_iff1 (s : State) (n : Nat) : (s.tracerCall n).iff1 = s.iff1 := by unfold State.tracerCall; split <;> rfl
@[simp] theorem tracerCall_iff2 (s : State) (n : Nat) : (s.tracerCall n).iff2 = s.iff2 := by unfold State.tracerCall; split <;> rfl
@[simp] theorem tracerCall_im (s : State) (n : Nat) : (s.tracerCall n).im = s.im := by unfold State.tracerCall; split <;> rfl
@[simp] theorem tracerCall_memptr (s : State) (n : Nat) : (s.tracerCall n).memptr = s.memptr := by unfold State.tracerCall; split <;> rfl
@[simp] theorem tracerCall_intBlocked (s : State) (n : Nat) : (s.tracerCall n).intBlocked = s.intBlocked := by unfold State.tracerCall; split <;> rfl
@[simp] theorem tracerCall_halted (s : State) (n : Nat) : (s.tracerCall n).halted = s.halted := by unfold State.tracerCall; split <;> rfl
@[simp] theorem tracerCall_t (s : State) (n : Nat) : (s.tracerCall n).t = s.t := by unfold State.tracerCall; split <;> rfl
@[simp] theorem tracerCall_runStatus (s : State) (n : Nat) : (s.tracerCall n).runStatus = s.runStatus := by unfold State.tracerCall; split <;> rfl
@[simp] theorem tracerCall_mem (s : State) (n : Nat) : (s.tracerCall n).mem = s.mem := by unfold State.tracerCall; split <;> rfl
@[simp] theorem tracerCall_tape (s : State) (n : Nat) : (s.tracerCall n).tape = s.tape := by unfold State.tracerCall; split <;> rfl
@[simp] theorem tracerCall_warnings (s : State) (n : Nat) : (s.tracerCall n).warnings = s.warnings := by unfold State.tracerCall; split <;> rfl
@[simp] theorem tracerCall_params (s : State) (n : Nat) : (s.tracerCall n).params = s.params := by unfold State.tracerCall; split <;> rfl

@[simp] theorem afterPortRead_regs (s : State) : (s.afterPortRead).regs = s.regs := by simp [State.afterPortRead]
@[simp] theorem afterPortRead_shadow (s : State) : (s.afterPortRead).shadow = s.shadow := by simp [State.afterPortRead]
@[simp] theorem afterPortRead_pc (s : State) : (s.afterPortRead).pc = s.pc := by simp [State.afterPortRead]
@[simp] theorem afterPortRead_i (s : State) : (s.afterPortRead).i = s.i := by simp [State.afterPortRead]
@[simp] theorem afterPortRead_r (s : State) : (s.afterPortRead).r = s.r := by simp [State.afterPortRead]
@[simp] theorem afterPortRead_iff1 (s : State) : (s.afterPortRead).iff1 = s.iff1 := by simp [State.afterPortRead]
@[simp] theorem afterPortRead_iff2 (s : State) : (s.afterPortRead).iff2 = s.iff2 := by simp [State.afterPortRead]
@[simp] theorem afterPortRead_im (s : State) : (s.afterPortRead).im = s.im := by simp [State.afterPortRead]
@[simp] theorem afterPortRead_memptr (s : State) : (s.afterPortRead).memptr = s.memptr := by simp [State.afterPortRead]
@[simp] theorem afterPortRead_intBlocked (s : State) : (s.afterPortRead).intBlocked = s.intBlocked := by simp [State.afterPortRead]
@[simp] theorem afterPortRead_halted (s : State) : (s.afterPortRead).halted = s.halted := by simp [State.afterPortRead]
@[simp] theorem afterPortRead_t (s : State) : (s.afterPortRead).t = s.t := by simp [State.afterPortRead]
@[simp] theorem afterPortRead_runStatus (s : State) : (s.afterPortRead).runStatus = s.runStatus := by simp [State.afterPortRead]
@[simp] theorem afterPortRead_mem (s : State) : (s.afterPortRead).mem = s.mem := by simp [State.afterPortRead]
@[simp] theorem afterPortRead_tape (s : State) : (s.afterPortRead).tape = s.tape := by simp [State.afterPortRead]
@[simp] theorem afterPortRead_warnings (s : State) : (s.afterPortRead).warnings = s.warnings := by simp [State.afterPortRead]
@[simp] theorem afterPortRead_params (s : State) : (s.afterPortRead).params = s.params := by simp [State.afterPortRead]

@[simp] theorem portWrite_regs (s : State) (p : Word) (v : Byte) : (s.portWrite p v).regs = s.regs := by simp [State.portWrite]
@[simp] theorem portWrite_shadow (s : State) (p : Word) (v : Byte) : (s.portWrite p v).shadow = s.shadow := by simp [State.portWrite]
@[simp] theorem portWrite_pc (s : State) (p : Word) (v : Byte) : (s.portWrite p v).pc = s.pc := by simp [State.portWrite]
@[simp] theorem portWrite_i (s : State) (p : Word) (v : Byte) : (s.portWrite p v).i = s.i := by simp [State.portWrite]
@[simp] theorem portWrite_r (s : State) (p : Word) (v : Byte) : (s.portWrite p v).r = s.r := by simp [State.portWrite]
@[simp] theorem portWrite_iff1 (s : State) (p : Word) (v : Byte) : (s.portWrite p v).iff1 = s.iff1 := by simp [State.portWrite]
@[simp] theorem portWrite_iff2 (s : State) (p : Word) (v : Byte) : (s.portWrite p v).iff2 = s.iff2 := by simp [State.portWrite]
@[simp] theorem portWrite_im (s : State) (p : Word) (v : Byte) : (s.portWrite p v).im = s.im := by simp [State.portWrite]
@[simp] theorem portWrite_memptr (s : State) (p : Word) (v : Byte) : (s.portWrite p v).memptr = s.memptr := by simp [State.portWrite]
@[simp] theorem portWrite_intBlocked (s : State) (p : Word) (v : Byte) : (s.portWrite p v).intBlocked = s.intBlocked := by simp [State.portWrite]
@[simp] theorem portWrite_halted (s : State) (p : Word) (v : Byte) : (s.portWrite p v).halted = s.halted := by simp [State.portWrite]
@[simp] theorem portWrite_t (s : State) (p : Word) (v : Byte) : (s.portWrite p v).t = s.t := by simp [State.portWrite]
@[simp] theorem portWrite_runStatus (s : State) (p : Word) (v : Byte) : (s.portWrite p v).runStatus = s.runStatus := by simp [State.portWrite]
@[simp] theorem portWrite_mem (s : State) (p : Word) (v : Byte) : (s.portWrite p v).mem = s.mem := by simp [State.portWrite]
@[simp] theorem portWrite_tape (s : State) (p : Word) (v : Byte) : (s.portWrite p v).tape = s.tape := by simp [State.portWrite]
@[simp] theorem portWrite_warnings (s : State) (p : Word) (v : Byte) : (s.portWrite p v).warnings = s.warnings := by simp [State.portWrite]
@[simp] theorem portWrite_params (s : State) (p : Word) (v : Byte) : (s.portWrite p v).params = s.params := by simp [State.portWrite]

@[simp] theorem nextBoundary_regs (s : State) : (s.nextBoundary).regs = s.regs := rfl
@[simp] theorem nextBoundary_shadow (s : State) : (s.nextBoundary).shadow = s.shadow := rfl
@[simp] theorem nextBoundary_pc (s : State) : (s.nextBoundary).pc = s.pc := rfl
@[simp] theorem nextBoundary_i (s : State) : (s.nextBoundary).i = s.i := rfl
@[simp] theorem nextBoundary_r (s : State) : (s.nextBoundary).r = s.r := rfl
@[simp] theorem nextBoundary_iff1 (s : State) : (s.nextBoundary).iff1 = s.iff1 := rfl
@[simp] theorem nextBoundary_iff2 (s : State) : (s.nextBoundary).iff2 = s.iff2 := rfl
@[simp] theorem nextBoundary_im (s : State) : (s.nextBoundary).im = s.im := rfl
@[simp] theorem nextBoundary_memptr (s : State) : (s.nextBoundary).memptr = s.memptr := rfl
@[simp] theorem nextBoundary_intBlocked (s : State) : (s.nextBoundary).intBlocked = s.intBlocked := rfl
@[simp] theorem nextBoundary_halted (s : State) : (s.nextBoundary).halted = s.halted := rfl
@[simp] theorem nextBoundary_t (s : State) : (s.nextBoundary).t = s.t := rfl
@[simp] theorem nextBoundary_runStatus (s : State) : (s.nextBoundary).runStatus = s.runStatus := rfl
@[simp] theorem nextBoundary_mem (s : State) : (s.nextBoundary).mem = s.mem := rfl
@[simp] theorem nextBoundary_trace (s : State) : (s.nextBoundary).trace = s.trace := rfl
@[simp] theorem nextBoundary_tape (s : State) : (s.nextBoundary).tape = s.tape := rfl
@[simp] theorem nextBoundary_warnings (s : State) : (s.nextBoundary).warnings = s.warnings := rfl
@[simp] theorem nextBoundary_params (s : State) : (s.nextBoundary).params = s.params := rfl

@[simp] theorem leaveHalt_regs (s : State) : (s.leaveHalt).regs = s.regs := by cases h : s.halted <;> simp [State.leaveHalt, h]
@[simp] theorem leaveHalt_shadow (s : State) : (s.leaveHalt).shadow = s.shadow := by cases h : s.halted <;> simp [State.leaveHalt, h]
@[simp] theorem leaveHalt_pc (s : State) : (s.leaveHalt).pc = if s.halted then s.pc + 1 else s.pc := by cases h : s.halted <;> simp [State.leaveHalt, h]
@[simp] theorem leaveHalt_i (s : State) : (s.leaveHalt).i = s.i := by cases h : s.halted <;> simp [State.leaveHalt, h]
@[simp] theorem leaveHalt_r (s : State) : (s.leaveHalt).r = s.r := by cases h : s.halted <;> simp [State.leaveHalt, h]
@[simp] theorem leaveHalt_iff1 (s : State) : (s.leaveHalt).iff1 = s.iff1 := by cases h : s.halted <;> simp [State.leaveHalt, h]
@[simp] theorem leaveHalt_iff2 (s : State) : (s.leaveHalt).iff2 = s.iff2 := by cases h : s.halted <;> simp [State.leaveHalt, h]
@[simp] theorem leaveHalt_im (s : State) : (s.leaveHalt).im = s.im := by cases h : s.halted <;> simp [State.leaveHalt, h]
@[simp] theorem leaveHalt_memptr (s : State) : (s.leaveHalt).memptr = s.memptr := by cases h : s.halted <;> simp [State.leaveHalt, h]
@[simp] theorem leaveHalt_intBlocked (s : State) : (s.leaveHalt).intBlocked = s.intBlocked := by cases h : s.halted <;> simp [State.leaveHalt, h]
@[simp] theorem leaveHalt_halted (s : State) : (s.leaveHalt).halted = false := by cases h : s.halted <;> simp [State.leaveHalt, h]
@[simp] theorem leaveHalt_t (s : State) : (s.leaveHalt).t = s.t := by cases h : s.halted <;> simp [State.leaveHalt, h]
@[simp] theorem leaveHalt_runStatus (s : State) : (s.leaveHalt).runStatus = s.runStatus := by cases h : s.halted <;> simp [State.leaveHalt, h]
@[simp] theorem leaveHalt_mem (s : State) : (s.leaveHalt).mem = s.mem := by cases h : s.halted <;> simp [State.leaveHalt, h]
@[simp] theorem leaveHalt_trace (s : State) : (s.leaveHalt).trace = s.trace := by cases h : s.halted <;> simp [State.leaveHalt, h]
@[simp] theorem leaveHalt_env (s : State) : (s.leaveHalt).env = s.env := by cases h : s.halted <;> simp [State.leaveHalt, h]
@[simp] theorem leaveHalt_tape (s : State) : (s.leaveHalt).tape = s.tape := by cases h : s.halted <;> simp [State.leaveHalt, h]
@[simp] theorem leaveHalt_warnings (s : State) : (s.leaveHalt).warnings = s.warnings := by cases h : s.halted <;> simp [State.leaveHalt, h]
@[simp] theorem leaveHalt_params (s : State) : (s.leaveHalt).params = s.params := by cases h : s.halted <;> simp [State.leaveHalt, h]

@[simp] theorem settle_regs (s : State) : (s.settle).regs = s.regs := by unfold State.settle; split <;> rfl
@[simp] theorem settle_shadow (s : State) : (s.settle).shadow = s.shadow := by unfold State.settle; split <;> rfl
@[simp] theorem settle_pc (s : State) : (s.settle).pc = s.pc := by unfold State.settle; split <;> rfl
@[simp] theorem settle_i (s : State) : (s.settle).i = s.i := by unfold State.settle; split <;> rfl
@[simp] theorem settle_r (s : State) : (s.settle).r = s.r := by unfold State.settle; split <;> rfl
@[simp] theorem settle_iff1 (s : State) : (s.settle).iff1 = s.iff1 := by unfold State.settle; split <;> rfl
@[simp] theorem settle_iff2 (s : State) : (s.settle).iff2 = s.iff2 := by unfold State.settle; split <;> rfl
@[simp] theorem settle_im (s : State) : (s.settle).im = s.im := by unfold State.settle; split <;> rfl
@[simp] theorem settle_memptr (s : State) : (s.settle).memptr = s.memptr := by unfold State.settle; split <;> rfl
@[simp] theorem settle_intBlocked (s : State) : (s.settle).intBlocked = s.intBlocked := by unfold State.settle; split <;> rfl
@[simp] theorem settle_halted (s : State) : (s.settle).halted = s.halted := by unfold State.settle; split <;> rfl
@[simp] theorem settle_t (s : State) : (s.settle).t = s.t := by unfold State.settle; split <;> rfl
@[simp] theorem settle_mem (s : State) : (s.settle).mem = s.mem := by unfold State.settle; split <;> rfl
@[simp] theorem settle_env (s : State) : (s.settle).env = s.env := by unfold State.settle; split <;> rfl
@[simp] theorem settle_tape (s : State) : (s.settle).tape = s.tape := by unfold State.settle; split <;> rfl
@[simp] theorem settle_warnings (s : State) : (s.settle).warnings = s.warnings := by unfold State.settle; split <;> rfl
@[simp] theorem settle_params (s : State) : (s.settle).params = s.params := by unfold State.settle; split <;> rfl

@[simp] theorem recorded_regs (s : State) (rec : InsnRecord) : (s.recorded rec).regs = s.regs := by simp [State.recorded]
@[simp] theorem recorded_shadow (s : State) (rec : InsnRecord) : (s.recorded rec).shadow = s.shadow := by simp [State.recorded]
@[simp] theorem recorded_pc (s : State) (rec : InsnRecord) : (s.recorded rec).pc = s.pc := by simp [State.recorded]
@[simp] theorem recorded_i (s : State) (rec : InsnRecord) : (s.recorded rec).i = s.i := by simp [State.recorded]
@[simp] theorem recorded_r (s : State) (rec : InsnRecord) : (s.recorded rec).r = s.r := by simp [State.recorded]
@[simp] theorem recorded_iff1 (s : State) (rec : InsnRecord) : (s.recorded rec).iff1 = s.iff1 := by simp [State.recorded]
@[simp] theorem recorded_iff2 (s : State) (rec : InsnRecord) : (s.recorded rec).iff2 = s.iff2 := by simp [State.recorded]
@[simp] theorem recorded_im (s : State) (rec : InsnRecord) : (s.recorded rec).im = s.im := by simp [State.recorded]
@[simp] theorem recorded_memptr (s : State) (rec : InsnRecord) : (s.recorded rec).memptr = s.memptr := by simp [State.recorded]
@[simp] theorem recorded_intBlocked (s : State) (rec : InsnRecord) : (s.recorded rec).intBlocked = s.intBlocked := by simp [State.recorded]
@[simp] theorem recorded_halted (s : State) (rec : InsnRecord) : (s.recorded rec).halted = s.halted := by simp [State.recorded]
@[simp] theorem recorded_t (s : State) (rec : InsnRecord) : (s.recorded rec).t = s.t := by simp [State.recorded]
@[simp] theorem recorded_mem (s : State) (rec : InsnRecord) : (s.recorded rec).mem = s.mem := by simp [State.recorded]
@[simp] theorem recorded_tape (s : State) (rec : InsnRecord) : (s.recorded rec).tape = s.tape := by simp [State.recorded]
@[simp] theorem recorded_warnings (s : State) (rec : InsnRecord) : (s.recorded rec).warnings = s.warnings := by simp [State.recorded]
@[simp] theorem recorded_params (s : State) (rec : InsnRecord) : (s.recorded rec).params = s.params := by simp [State.recorded]

@[simp] theorem afterFetch_regs (s : State) (x : Instr) : (s.afterFetch x).regs = s.regs := rfl
@[simp] theorem afterFetch_shadow (s : State) (x : Instr) : (s.afterFetch x).shadow = s.shadow := rfl
@[simp] theorem afterFetch_pc (s : State) (x : Instr) : (s.afterFetch x).pc = s.pc + BitVec.ofNat 16 x.length := rfl
@[simp] theorem afterFetch_i (s : State) (x : Instr) : (s.afterFetch x).i = s.i := rfl
@[simp] theorem afterFetch_r (s : State) (x : Instr) : (s.afterFetch x).r = (s.rInc x.m1).r := rfl
@[simp] theorem afterFetch_iff1 (s : State) (x : Instr) : (s.afterFetch x).iff1 = s.iff1 := rfl
@[simp] theorem afterFetch_iff2 (s : State) (x : Instr) : (s.afterFetch x).iff2 = s.iff2 := rfl
@[simp] theorem afterFetch_im (s : State) (x : Instr) : (s.afterFetch x).im = s.im := rfl
@[simp] theorem afterFetch_memptr (s : State) (x : Instr) : (s.afterFetch x).memptr = s.memptr := rfl
@[simp] theorem afterFetch_intBlocked (s : State) (x : Instr) : (s.afterFetch x).intBlocked = .none := rfl
@[simp] theorem afterFetch_halted (s : State) (x : Instr) : (s.afterFetch x).halted = s.halted := rfl
@[simp] theorem afterFetch_t (s : State) (x : Instr) : (s.afterFetch x).t = s.t := rfl
@[simp] theorem afterFetch_runStatus (s : State) (x : Instr) : (s.afterFetch x).runStatus = s.runStatus := rfl
@[simp] theorem afterFetch_mem (s : State) (x : Instr) : (s.afterFetch x).mem = s.mem := rfl
@[simp] theorem afterFetch_trace (s : State) (x : Instr) : (s.afterFetch x).trace = s.trace := rfl
@[simp] theorem afterFetch_env (s : State) (x : Instr) : (s.afterFetch x).env = s.env := rfl
@[simp] theorem afterFetch_tape (s : State) (x : Instr) : (s.afterFetch x).tape = s.tape := rfl
@[simp] theorem afterFetch_warnings (s : State) (x : Instr) : (s.afterFetch x).warnings = s.warnings := rfl
@[simp] theorem afterFetch_params (s : State) (x : Instr) : (s.afterFetch x).params = s.params := rfl

end Sys2Proof.Machine.State
end

