-- ==== Sys2Proof/Laws/Ops.lean ====
section
/-! SUPPORT. One lemma for each shared operation, saying what it does: stores, the stack, acceptances, the end of a step. -/

namespace Sys2Proof.Machine

namespace State

/-! ## Stores -/

/-- What a one-byte store makes of memory (R84). -/
theorem write_mem (s : State) (a : Word) (v : Byte) :
    (s.write a v).mem = if a.toNat < s.params.romLimit then s.mem else s.mem.set a.toNat v := by
  unfold State.write; split <;> rfl

/-- A store changes nothing but memory. -/
theorem write_eq (s : State) (a : Word) (v : Byte) : s.write a v = { s with mem := (s.write a v).mem } := by
  unfold State.write; split <;> rfl

/-- A store leaves every other byte alone. -/
theorem read_write_other (s : State) {a b : Word} (v : Byte) (h : b ≠ a) : (s.write a v).read b = s.read b := by
  have hn : b.toNat ≠ a.toNat := fun e => h (BitVec.eq_of_toNat_eq e)
  unfold State.read; rw [write_mem]; split
  · rfl
  · exact Memory.get_set_other s.mem v hn

/-- What the stored byte reads as, in a canonical memory: v, or what it was below ROM_LIMIT. -/
theorem read_write_same (s : State) (a : Word) (v : Byte) (h : s.mem.wf = true) :
    (s.write a v).read a = if a.toNat < s.params.romLimit then s.read a else v := by
  unfold State.read; rw [write_mem]; split
  · rfl
  · exact Memory.get_set_same a.toNat v h

/-- A store keeps the canonical form. -/
theorem write_wf (s : State) (a : Word) (v : Byte) (h : s.mem.wf = true) : (s.write a v).mem.wf = true := by
  rw [write_mem]; split
  · exact h
  · exact Memory.wf_set v h (by have := a.isLt; simp only [Memory.size]; omega)

theorem write16_wf (s : State) (a v : Word) (h : s.mem.wf = true) : (s.write16 a v).mem.wf = true :=
  write_wf _ _ _ (write_wf _ _ _ h)

/-- What a word store makes of memory: the low byte first (R12). -/
theorem write16_mem (s : State) (a v : Word) :
    (s.write16 a v).mem = ((s.write a (loOf v)).write (a + 1) (hiOf v)).mem := rfl

theorem read_write16_other (s : State) {a b : Word} (v : Word) (h0 : b ≠ a) (h1 : b ≠ a + 1) :
    (s.write16 a v).read b = s.read b := by
  rw [State.write16, read_write_other _ _ h1, read_write_other _ _ h0]

/-! ## The stack -/

/-- What a push makes of memory: the high byte below SP, the low byte below that (R12). -/
theorem push_mem (s : State) (v : Word) :
    (s.push v).mem = ((s.write (s.regs.sp - 1) (hiOf v)).write (s.regs.sp - 2) (loOf v)).mem := by
  simp [State.push, write_mem]

theorem push_wf (s : State) (v : Word) (h : s.mem.wf = true) : (s.push v).mem.wf = true := by
  rw [push_mem]; exact write_wf _ _ _ (write_wf _ _ _ h)

/-- A push leaves every byte but the two below SP alone. -/
theorem read_push_other (s : State) {b : Word} (v : Word) (h1 : b ≠ s.regs.sp - 1) (h2 : b ≠ s.regs.sp - 2) :
    (s.push v).read b = s.read b := by
  unfold State.read
  rw [push_mem]
  exact (read_write_other _ _ h2).trans (read_write_other _ _ h1)

/-! ## Acceptance and return -/

/-- An acceptance stores its return address with a push and nothing else (R512, R515). -/
theorem enterHandler_mem (s : State) (target : State → Word) (cost : Nat) :
    (s.enterHandler target cost).mem = ((s.leaveHalt.rInc 1).push s.leaveHalt.pc).mem := rfl

theorem enterHandler_wf (s : State) (target : State → Word) (cost : Nat) (h : s.mem.wf = true) :
    (s.enterHandler target cost).mem.wf = true := by
  rw [enterHandler_mem]; exact push_wf _ _ (by simpa using h)

/-- The maskable acceptance by mode (R512). -/
theorem enterInt_eq (s : State) (bus : Byte) : s.enterInt bus =
    match s.im with
    | .im0 => ({ s with iff1 := false, iff2 := false } : State).enterHandler (fun _ => (bus &&& 0x38).setWidth 16) 13
    | .im1 => ({ s with iff1 := false, iff2 := false } : State).enterHandler (fun _ => 0x0038) 13
    | .im2 => ({ s with iff1 := false, iff2 := false } : State).enterHandler (fun s2 => s2.read16 (wordOf s2.i bus)) 19 :=
  rfl

theorem enterInt_wf (s : State) (bus : Byte) (h : s.mem.wf = true) : (s.enterInt bus).mem.wf = true := by
  rw [enterInt_eq]; split <;> exact enterHandler_wf _ _ _ h

/-! ## The end of a step -/

/-- After `settle` no stop is pending. -/
theorem settle_stopPending (s : State) : s.settle.trace.stopPending = false := by
  unfold State.settle; split <;> simp_all

theorem recorded_stopPending (s : State) (rec : InsnRecord) : (s.recorded rec).trace.stopPending = false :=
  settle_stopPending _

end State

/-- The end of a meaning never stops. -/
@[simp] theorem finish_eq (cost : Nat) (s : State) : finish cost s = .next (s.addT cost) := rfl

/-- What the repeat tail answers (R240). -/
theorem repeatTail_eq (again : Bool) (s : State) : repeatTail again s =
    .next (if again then (s.jump (s.pc0 2)).setMemptr (s.pc0 2 + 1) |>.addT 21 else s.addT 16) := by
  cases again <;> rfl

/-- An instruction step is exec between the fetch and the record (R171). -/
theorem instructionStep_next {s t : State} (h : instructionStep s = .next t) :
    ∃ u, exec s.fetched (s.afterFetch s.fetched) = .next u ∧
      t = u.recorded { addr := s.pc, bytes := s.bytesAt s.pc s.fetched.length, cost := u.t - s.t } := by
  simp only [instructionStep] at h
  split at h
  · exact ⟨_, ‹_›, by simpa using h.symm⟩
  · cases h
  · cases h

/-- Everything a step at a boundary can be (R170). -/
theorem boundaryStep_cases (s : State) :
    (nmiTaken s = true ∧ boundaryStep s = .next s.nextBoundary.enterNmi) ∨
    (nmiTaken s = false ∧ intTaken s = true ∧ boundaryStep s = acceptInt s.nextBoundary) ∨
    (nmiTaken s = false ∧ intTaken s = false ∧
      ((∃ r, fastLoadStep s.nmiRequest s.nextBoundary = some r ∧ boundaryStep s = r) ∨
       (fastLoadStep s.nmiRequest s.nextBoundary = none ∧ s.halted = true ∧
          boundaryStep s = .next s.nextBoundary.haltedIdle) ∨
       (fastLoadStep s.nmiRequest s.nextBoundary = none ∧ s.halted = false ∧
          boundaryStep s = instructionStep s.nextBoundary))) := by
  unfold boundaryStep
  cases nmiTaken s
  · cases intTaken s
    · refine .inr (.inr ⟨rfl, rfl, ?_⟩)
      cases hf : fastLoadStep s.nmiRequest s.nextBoundary with
      | some r => exact .inl ⟨r, rfl, by simp [hf]⟩
      | none => cases hh : s.halted <;> simp [hf]
    · exact .inr (.inl ⟨rfl, rfl, by simp⟩)
  · exact .inl ⟨rfl, by simp⟩

/-- Everything a step can be (R55, R477). -/
theorem step_cases {s t : State} (h : step s = .next t) :
    s.runStatus = .running ∧
      ((loadStopHolds s = true ∧ t = { s with runStatus := .stopped }) ∨
       (loadStopHolds s = false ∧ boundaryStep s = .next t)) := by
  unfold step at h
  split at h
  · cases h
  · cases h
  · refine ⟨‹_›, ?_⟩
    cases hs : loadStopHolds s with
    | true => exact .inl ⟨rfl, by simpa [hs] using h.symm⟩
    | false => exact .inr ⟨rfl, by simpa [hs] using h⟩

end Sys2Proof.Machine
end

