-- ==== Sys2Proof/Laws/PerInstr.lean ====
section
/-! SUPPORT. Statements made per instruction. Family Encoded: an instruction's encoding is as many bytes as the decoder has to
see, its length is 1 to 4, its M1 fetches are 1 or 2 (R120, R138, R172). -/

namespace Sys2Proof.Laws

/-- Of an instruction's encoding, length and M1 count (R120, R132, R138, R172). -/
def Encoded.Statement (i : Instr) : Prop :=
  (encode i).length = i.window ∧ 1 ≤ i.length ∧ i.length ≤ 4 ∧ (i.m1 = 1 ∨ i.m1 = 2)

namespace Encoded

theorem nop : Statement (.nop) := ⟨rfl, Nat.le_of_ble_eq_true rfl, Nat.le_of_ble_eq_true rfl, .inl rfl⟩
theorem exAfAf : Statement (.exAfAf) := ⟨rfl, Nat.le_of_ble_eq_true rfl, Nat.le_of_ble_eq_true rfl, .inl rfl⟩
theorem djnz (e : Byte) : Statement (.djnz e) := ⟨rfl, Nat.le_of_ble_eq_true rfl, Nat.le_of_ble_eq_true rfl, .inl rfl⟩
theorem jr (e : Byte) : Statement (.jr e) := ⟨rfl, Nat.le_of_ble_eq_true rfl, Nat.le_of_ble_eq_true rfl, .inl rfl⟩
theorem jrCc (cc : Cond) (e : Byte) : Statement (.jrCc cc e) := ⟨rfl, Nat.le_of_ble_eq_true rfl, Nat.le_of_ble_eq_true rfl, .inl rfl⟩
theorem ldDdNn (dd : Pair) (nn : Word) : Statement (.ldDdNn dd nn) := ⟨rfl, Nat.le_of_ble_eq_true rfl, Nat.le_of_ble_eq_true rfl, .inl rfl⟩
theorem addHlSs (ss : Pair) : Statement (.addHlSs ss) := ⟨rfl, Nat.le_of_ble_eq_true rfl, Nat.le_of_ble_eq_true rfl, .inl rfl⟩
theorem ldBcA : Statement (.ldBcA) := ⟨rfl, Nat.le_of_ble_eq_true rfl, Nat.le_of_ble_eq_true rfl, .inl rfl⟩
theorem ldDeA : Statement (.ldDeA) := ⟨rfl, Nat.le_of_ble_eq_true rfl, Nat.le_of_ble_eq_true rfl, .inl rfl⟩
theorem ldMemHl (nn : Word) : Statement (.ldMemHl nn) := ⟨rfl, Nat.le_of_ble_eq_true rfl, Nat.le_of_ble_eq_true rfl, .inl rfl⟩
theorem ldMemA (nn : Word) : Statement (.ldMemA nn) := ⟨rfl, Nat.le_of_ble_eq_true rfl, Nat.le_of_ble_eq_true rfl, .inl rfl⟩
theorem ldABc : Statement (.ldABc) := ⟨rfl, Nat.le_of_ble_eq_true rfl, Nat.le_of_ble_eq_true rfl, .inl rfl⟩
theorem ldADe : Statement (.ldADe) := ⟨rfl, Nat.le_of_ble_eq_true rfl, Nat.le_of_ble_eq_true rfl, .inl rfl⟩
theorem ldHlMem (nn : Word) : Statement (.ldHlMem nn) := ⟨rfl, Nat.le_of_ble_eq_true rfl, Nat.le_of_ble_eq_true rfl, .inl rfl⟩
theorem ldAMem (nn : Word) : Statement (.ldAMem nn) := ⟨rfl, Nat.le_of_ble_eq_true rfl, Nat.le_of_ble_eq_true rfl, .inl rfl⟩
theorem incSs (ss : Pair) : Statement (.incSs ss) := ⟨rfl, Nat.le_of_ble_eq_true rfl, Nat.le_of_ble_eq_true rfl, .inl rfl⟩
theorem decSs (ss : Pair) : Statement (.decSs ss) := ⟨rfl, Nat.le_of_ble_eq_true rfl, Nat.le_of_ble_eq_true rfl, .inl rfl⟩
theorem incR (r : Reg8) : Statement (.incR r) := ⟨rfl, Nat.le_of_ble_eq_true rfl, Nat.le_of_ble_eq_true rfl, .inl rfl⟩
theorem incM : Statement (.incM) := ⟨rfl, Nat.le_of_ble_eq_true rfl, Nat.le_of_ble_eq_true rfl, .inl rfl⟩
theorem decR (r : Reg8) : Statement (.decR r) := ⟨rfl, Nat.le_of_ble_eq_true rfl, Nat.le_of_ble_eq_true rfl, .inl rfl⟩
theorem decM : Statement (.decM) := ⟨rfl, Nat.le_of_ble_eq_true rfl, Nat.le_of_ble_eq_true rfl, .inl rfl⟩
theorem ldRN (r : Reg8) (n : Byte) : Statement (.ldRN r n) := ⟨rfl, Nat.le_of_ble_eq_true rfl, Nat.le_of_ble_eq_true rfl, .inl rfl⟩
theorem ldMN (n : Byte) : Statement (.ldMN n) := ⟨rfl, Nat.le_of_ble_eq_true rfl, Nat.le_of_ble_eq_true rfl, .inl rfl⟩
theorem rlca : Statement (.rlca) := ⟨rfl, Nat.le_of_ble_eq_true rfl, Nat.le_of_ble_eq_true rfl, .inl rfl⟩
theorem rrca : Statement (.rrca) := ⟨rfl, Nat.le_of_ble_eq_true rfl, Nat.le_of_ble_eq_true rfl, .inl rfl⟩
theorem rla : Statement (.rla) := ⟨rfl, Nat.le_of_ble_eq_true rfl, Nat.le_of_ble_eq_true rfl, .inl rfl⟩
theorem rra : Statement (.rra) := ⟨rfl, Nat.le_of_ble_eq_true rfl, Nat.le_of_ble_eq_true rfl, .inl rfl⟩
theorem daa : Statement (.daa) := ⟨rfl, Nat.le_of_ble_eq_true rfl, Nat.le_of_ble_eq_true rfl, .inl rfl⟩
theorem cpl : Statement (.cpl) := ⟨rfl, Nat.le_of_ble_eq_true rfl, Nat.le_of_ble_eq_true rfl, .inl rfl⟩
theorem scf : Statement (.scf) := ⟨rfl, Nat.le_of_ble_eq_true rfl, Nat.le_of_ble_eq_true rfl, .inl rfl⟩
theorem ccf : Statement (.ccf) := ⟨rfl, Nat.le_of_ble_eq_true rfl, Nat.le_of_ble_eq_true rfl, .inl rfl⟩
theorem ldRR (r : Reg8) (r2 : Reg8) : Statement (.ldRR r r2) := ⟨rfl, Nat.le_of_ble_eq_true rfl, Nat.le_of_ble_eq_true rfl, .inl rfl⟩
theorem ldRM (r : Reg8) : Statement (.ldRM r) := ⟨rfl, Nat.le_of_ble_eq_true rfl, Nat.le_of_ble_eq_true rfl, .inl rfl⟩
theorem ldMR (r : Reg8) : Statement (.ldMR r) := ⟨rfl, Nat.le_of_ble_eq_true rfl, Nat.le_of_ble_eq_true rfl, .inl rfl⟩
theorem halt : Statement (.halt) := ⟨rfl, Nat.le_of_ble_eq_true rfl, Nat.le_of_ble_eq_true rfl, .inl rfl⟩
theorem addAR (r : Reg8) : Statement (.addAR r) := ⟨rfl, Nat.le_of_ble_eq_true rfl, Nat.le_of_ble_eq_true rfl, .inl rfl⟩
theorem addAM : Statement (.addAM) := ⟨rfl, Nat.le_of_ble_eq_true rfl, Nat.le_of_ble_eq_true rfl, .inl rfl⟩
theorem addAN (n : Byte) : Statement (.addAN n) := ⟨rfl, Nat.le_of_ble_eq_true rfl, Nat.le_of_ble_eq_true rfl, .inl rfl⟩
theorem adcAR (r : Reg8) : Statement (.adcAR r) := ⟨rfl, Nat.le_of_ble_eq_true rfl, Nat.le_of_ble_eq_true rfl, .inl rfl⟩
theorem adcAM : Statement (.adcAM) := ⟨rfl, Nat.le_of_ble_eq_true rfl, Nat.le_of_ble_eq_true rfl, .inl rfl⟩
theorem adcAN (n : Byte) : Statement (.adcAN n) := ⟨rfl, Nat.le_of_ble_eq_true rfl, Nat.le_of_ble_eq_true rfl, .inl rfl⟩
theorem subR (r : Reg8) : Statement (.subR r) := ⟨rfl, Nat.le_of_ble_eq_true rfl, Nat.le_of_ble_eq_true rfl, .inl rfl⟩
theorem subM : Statement (.subM) := ⟨rfl, Nat.le_of_ble_eq_true rfl, Nat.le_of_ble_eq_true rfl, .inl rfl⟩
theorem subN (n : Byte) : Statement (.subN n) := ⟨rfl, Nat.le_of_ble_eq_true rfl, Nat.le_of_ble_eq_true rfl, .inl rfl⟩
theorem sbcAR (r : Reg8) : Statement (.sbcAR r) := ⟨rfl, Nat.le_of_ble_eq_true rfl, Nat.le_of_ble_eq_true rfl, .inl rfl⟩
theorem sbcAM : Statement (.sbcAM) := ⟨rfl, Nat.le_of_ble_eq_true rfl, Nat.le_of_ble_eq_true rfl, .inl rfl⟩
theorem sbcAN (n : Byte) : Statement (.sbcAN n) := ⟨rfl, Nat.le_of_ble_eq_true rfl, Nat.le_of_ble_eq_true rfl, .inl rfl⟩
theorem andR (r : Reg8) : Statement (.andR r) := ⟨rfl, Nat.le_of_ble_eq_true rfl, Nat.le_of_ble_eq_true rfl, .inl rfl⟩
theorem andM : Statement (.andM) := ⟨rfl, Nat.le_of_ble_eq_true rfl, Nat.le_of_ble_eq_true rfl, .inl rfl⟩
theorem andN (n : Byte) : Statement (.andN n) := ⟨rfl, Nat.le_of_ble_eq_true rfl, Nat.le_of_ble_eq_true rfl, .inl rfl⟩
theorem xorR (r : Reg8) : Statement (.xorR r) := ⟨rfl, Nat.le_of_ble_eq_true rfl, Nat.le_of_ble_eq_true rfl, .inl rfl⟩
theorem xorM : Statement (.xorM) := ⟨rfl, Nat.le_of_ble_eq_true rfl, Nat.le_of_ble_eq_true rfl, .inl rfl⟩
theorem xorN (n : Byte) : Statement (.xorN n) := ⟨rfl, Nat.le_of_ble_eq_true rfl, Nat.le_of_ble_eq_true rfl, .inl rfl⟩
theorem orR (r : Reg8) : Statement (.orR r) := ⟨rfl, Nat.le_of_ble_eq_true rfl, Nat.le_of_ble_eq_true rfl, .inl rfl⟩
theorem orM : Statement (.orM) := ⟨rfl, Nat.le_of_ble_eq_true rfl, Nat.le_of_ble_eq_true rfl, .inl rfl⟩
theorem orN (n : Byte) : Statement (.orN n) := ⟨rfl, Nat.le_of_ble_eq_true rfl, Nat.le_of_ble_eq_true rfl, .inl rfl⟩
theorem cpR (r : Reg8) : Statement (.cpR r) := ⟨rfl, Nat.le_of_ble_eq_true rfl, Nat.le_of_ble_eq_true rfl, .inl rfl⟩
theorem cpM : Statement (.cpM) := ⟨rfl, Nat.le_of_ble_eq_true rfl, Nat.le_of_ble_eq_true rfl, .inl rfl⟩
theorem cpN (n : Byte) : Statement (.cpN n) := ⟨rfl, Nat.le_of_ble_eq_true rfl, Nat.le_of_ble_eq_true rfl, .inl rfl⟩
theorem retCc (cc : Cond) : Statement (.retCc cc) := ⟨rfl, Nat.le_of_ble_eq_true rfl, Nat.le_of_ble_eq_true rfl, .inl rfl⟩
theorem popQq (qq : PairQ) : Statement (.popQq qq) := ⟨rfl, Nat.le_of_ble_eq_true rfl, Nat.le_of_ble_eq_true rfl, .inl rfl⟩
theorem ret : Statement (.ret) := ⟨rfl, Nat.le_of_ble_eq_true rfl, Nat.le_of_ble_eq_true rfl, .inl rfl⟩
theorem exx : Statement (.exx) := ⟨rfl, Nat.le_of_ble_eq_true rfl, Nat.le_of_ble_eq_true rfl, .inl rfl⟩
theorem jpHl : Statement (.jpHl) := ⟨rfl, Nat.le_of_ble_eq_true rfl, Nat.le_of_ble_eq_true rfl, .inl rfl⟩
theorem ldSpHl : Statement (.ldSpHl) := ⟨rfl, Nat.le_of_ble_eq_true rfl, Nat.le_of_ble_eq_true rfl, .inl rfl⟩
theorem jpCcNn (cc : Cond) (nn : Word) : Statement (.jpCcNn cc nn) := ⟨rfl, Nat.le_of_ble_eq_true rfl, Nat.le_of_ble_eq_true rfl, .inl rfl⟩
theorem jpNn (nn : Word) : Statement (.jpNn nn) := ⟨rfl, Nat.le_of_ble_eq_true rfl, Nat.le_of_ble_eq_true rfl, .inl rfl⟩
theorem outNA (n : Byte) : Statement (.outNA n) := ⟨rfl, Nat.le_of_ble_eq_true rfl, Nat.le_of_ble_eq_true rfl, .inl rfl⟩
theorem inAN (n : Byte) : Statement (.inAN n) := ⟨rfl, Nat.le_of_ble_eq_true rfl, Nat.le_of_ble_eq_true rfl, .inl rfl⟩
theorem exSpHl : Statement (.exSpHl) := ⟨rfl, Nat.le_of_ble_eq_true rfl, Nat.le_of_ble_eq_true rfl, .inl rfl⟩
theorem exDeHl : Statement (.exDeHl) := ⟨rfl, Nat.le_of_ble_eq_true rfl, Nat.le_of_ble_eq_true rfl, .inl rfl⟩
theorem di : Statement (.di) := ⟨rfl, Nat.le_of_ble_eq_true rfl, Nat.le_of_ble_eq_true rfl, .inl rfl⟩
theorem ei : Statement (.ei) := ⟨rfl, Nat.le_of_ble_eq_true rfl, Nat.le_of_ble_eq_true rfl, .inl rfl⟩
theorem callCcNn (cc : Cond) (nn : Word) : Statement (.callCcNn cc nn) := ⟨rfl, Nat.le_of_ble_eq_true rfl, Nat.le_of_ble_eq_true rfl, .inl rfl⟩
theorem pushQq (qq : PairQ) : Statement (.pushQq qq) := ⟨rfl, Nat.le_of_ble_eq_true rfl, Nat.le_of_ble_eq_true rfl, .inl rfl⟩
theorem callNn (nn : Word) : Statement (.callNn nn) := ⟨rfl, Nat.le_of_ble_eq_true rfl, Nat.le_of_ble_eq_true rfl, .inl rfl⟩
theorem rst (p : BitVec 3) : Statement (.rst p) := ⟨rfl, Nat.le_of_ble_eq_true rfl, Nat.le_of_ble_eq_true rfl, .inl rfl⟩
theorem rlcR (r : Reg8) : Statement (.rlcR r) := ⟨rfl, Nat.le_of_ble_eq_true rfl, Nat.le_of_ble_eq_true rfl, .inr rfl⟩
theorem rlcM : Statement (.rlcM) := ⟨rfl, Nat.le_of_ble_eq_true rfl, Nat.le_of_ble_eq_true rfl, .inr rfl⟩
theorem rrcR (r : Reg8) : Statement (.rrcR r) := ⟨rfl, Nat.le_of_ble_eq_true rfl, Nat.le_of_ble_eq_true rfl, .inr rfl⟩
theorem rrcM : Statement (.rrcM) := ⟨rfl, Nat.le_of_ble_eq_true rfl, Nat.le_of_ble_eq_true rfl, .inr rfl⟩
theorem rlR (r : Reg8) : Statement (.rlR r) := ⟨rfl, Nat.le_of_ble_eq_true rfl, Nat.le_of_ble_eq_true rfl, .inr rfl⟩
theorem rlM : Statement (.rlM) := ⟨rfl, Nat.le_of_ble_eq_true rfl, Nat.le_of_ble_eq_true rfl, .inr rfl⟩
theorem rrR (r : Reg8) : Statement (.rrR r) := ⟨rfl, Nat.le_of_ble_eq_true rfl, Nat.le_of_ble_eq_true rfl, .inr rfl⟩
theorem rrM : Statement (.rrM) := ⟨rfl, Nat.le_of_ble_eq_true rfl, Nat.le_of_ble_eq_true rfl, .inr rfl⟩
theorem slaR (r : Reg8) : Statement (.slaR r) := ⟨rfl, Nat.le_of_ble_eq_true rfl, Nat.le_of_ble_eq_true rfl, .inr rfl⟩
theorem slaM : Statement (.slaM) := ⟨rfl, Nat.le_of_ble_eq_true rfl, Nat.le_of_ble_eq_true rfl, .inr rfl⟩
theorem sraR (r : Reg8) : Statement (.sraR r) := ⟨rfl, Nat.le_of_ble_eq_true rfl, Nat.le_of_ble_eq_true rfl, .inr rfl⟩
theorem sraM : Statement (.sraM) := ⟨rfl, Nat.le_of_ble_eq_true rfl, Nat.le_of_ble_eq_true rfl, .inr rfl⟩
theorem sllR (r : Reg8) : Statement (.sllR r) := ⟨rfl, Nat.le_of_ble_eq_true rfl, Nat.le_of_ble_eq_true rfl, .inr rfl⟩
theorem sllM : Statement (.sllM) := ⟨rfl, Nat.le_of_ble_eq_true rfl, Nat.le_of_ble_eq_true rfl, .inr rfl⟩
theorem srlR (r : Reg8) : Statement (.srlR r) := ⟨rfl, Nat.le_of_ble_eq_true rfl, Nat.le_of_ble_eq_true rfl, .inr rfl⟩
theorem srlM : Statement (.srlM) := ⟨rfl, Nat.le_of_ble_eq_true rfl, Nat.le_of_ble_eq_true rfl, .inr rfl⟩
theorem bitR (b : BitVec 3) (r : Reg8) : Statement (.bitR b r) := ⟨rfl, Nat.le_of_ble_eq_true rfl, Nat.le_of_ble_eq_true rfl, .inr rfl⟩
theorem bitM (b : BitVec 3) : Statement (.bitM b) := ⟨rfl, Nat.le_of_ble_eq_true rfl, Nat.le_of_ble_eq_true rfl, .inr rfl⟩
theorem resR (b : BitVec 3) (r : Reg8) : Statement (.resR b r) := ⟨rfl, Nat.le_of_ble_eq_true rfl, Nat.le_of_ble_eq_true rfl, .inr rfl⟩
theorem resM (b : BitVec 3) : Statement (.resM b) := ⟨rfl, Nat.le_of_ble_eq_true rfl, Nat.le_of_ble_eq_true rfl, .inr rfl⟩
theorem setR (b : BitVec 3) (r : Reg8) : Statement (.setR b r) := ⟨rfl, Nat.le_of_ble_eq_true rfl, Nat.le_of_ble_eq_true rfl, .inr rfl⟩
theorem setM (b : BitVec 3) : Statement (.setM b) := ⟨rfl, Nat.le_of_ble_eq_true rfl, Nat.le_of_ble_eq_true rfl, .inr rfl⟩
theorem inRC (r : Reg8) : Statement (.inRC r) := ⟨rfl, Nat.le_of_ble_eq_true rfl, Nat.le_of_ble_eq_true rfl, .inr rfl⟩
theorem inFC : Statement (.inFC) := ⟨rfl, Nat.le_of_ble_eq_true rfl, Nat.le_of_ble_eq_true rfl, .inr rfl⟩
theorem outCR (r : Reg8) : Statement (.outCR r) := ⟨rfl, Nat.le_of_ble_eq_true rfl, Nat.le_of_ble_eq_true rfl, .inr rfl⟩
theorem outC0 : Statement (.outC0) := ⟨rfl, Nat.le_of_ble_eq_true rfl, Nat.le_of_ble_eq_true rfl, .inr rfl⟩
theorem sbcHlSs (ss : Pair) : Statement (.sbcHlSs ss) := ⟨rfl, Nat.le_of_ble_eq_true rfl, Nat.le_of_ble_eq_true rfl, .inr rfl⟩
theorem adcHlSs (ss : Pair) : Statement (.adcHlSs ss) := ⟨rfl, Nat.le_of_ble_eq_true rfl, Nat.le_of_ble_eq_true rfl, .inr rfl⟩
theorem ldMemDd (dd : Pair) (nn : Word) : Statement (.ldMemDd dd nn) := ⟨rfl, Nat.le_of_ble_eq_true rfl, Nat.le_of_ble_eq_true rfl, .inr rfl⟩
theorem ldDdMem (dd : Pair) (nn : Word) : Statement (.ldDdMem dd nn) := ⟨rfl, Nat.le_of_ble_eq_true rfl, Nat.le_of_ble_eq_true rfl, .inr rfl⟩
theorem neg (y : BitVec 3) : Statement (.neg y) := ⟨rfl, Nat.le_of_ble_eq_true rfl, Nat.le_of_ble_eq_true rfl, .inr rfl⟩
theorem retn (y : BitVec 3) : Statement (.retn y) := ⟨rfl, Nat.le_of_ble_eq_true rfl, Nat.le_of_ble_eq_true rfl, .inr rfl⟩
theorem reti : Statement (.reti) := ⟨rfl, Nat.le_of_ble_eq_true rfl, Nat.le_of_ble_eq_true rfl, .inr rfl⟩
theorem im0 (y : BitVec 3) : Statement (.im0 y) := ⟨rfl, Nat.le_of_ble_eq_true rfl, Nat.le_of_ble_eq_true rfl, .inr rfl⟩
theorem im1 (y : BitVec 3) : Statement (.im1 y) := ⟨rfl, Nat.le_of_ble_eq_true rfl, Nat.le_of_ble_eq_true rfl, .inr rfl⟩
theorem im2 (y : BitVec 3) : Statement (.im2 y) := ⟨rfl, Nat.le_of_ble_eq_true rfl, Nat.le_of_ble_eq_true rfl, .inr rfl⟩
theorem ldIA : Statement (.ldIA) := ⟨rfl, Nat.le_of_ble_eq_true rfl, Nat.le_of_ble_eq_true rfl, .inr rfl⟩
theorem ldRA : Statement (.ldRA) := ⟨rfl, Nat.le_of_ble_eq_true rfl, Nat.le_of_ble_eq_true rfl, .inr rfl⟩
theorem ldAI : Statement (.ldAI) := ⟨rfl, Nat.le_of_ble_eq_true rfl, Nat.le_of_ble_eq_true rfl, .inr rfl⟩
theorem ldAR : Statement (.ldAR) := ⟨rfl, Nat.le_of_ble_eq_true rfl, Nat.le_of_ble_eq_true rfl, .inr rfl⟩
theorem rrd : Statement (.rrd) := ⟨rfl, Nat.le_of_ble_eq_true rfl, Nat.le_of_ble_eq_true rfl, .inr rfl⟩
theorem rld : Statement (.rld) := ⟨rfl, Nat.le_of_ble_eq_true rfl, Nat.le_of_ble_eq_true rfl, .inr rfl⟩
theorem ldi : Statement (.ldi) := ⟨rfl, Nat.le_of_ble_eq_true rfl, Nat.le_of_ble_eq_true rfl, .inr rfl⟩
theorem cpi : Statement (.cpi) := ⟨rfl, Nat.le_of_ble_eq_true rfl, Nat.le_of_ble_eq_true rfl, .inr rfl⟩
theorem ini : Statement (.ini) := ⟨rfl, Nat.le_of_ble_eq_true rfl, Nat.le_of_ble_eq_true rfl, .inr rfl⟩
theorem outi : Statement (.outi) := ⟨rfl, Nat.le_of_ble_eq_true rfl, Nat.le_of_ble_eq_true rfl, .inr rfl⟩
theorem ldd : Statement (.ldd) := ⟨rfl, Nat.le_of_ble_eq_true rfl, Nat.le_of_ble_eq_true rfl, .inr rfl⟩
theorem cpd : Statement (.cpd) := ⟨rfl, Nat.le_of_ble_eq_true rfl, Nat.le_of_ble_eq_true rfl, .inr rfl⟩
theorem ind : Statement (.ind) := ⟨rfl, Nat.le_of_ble_eq_true rfl, Nat.le_of_ble_eq_true rfl, .inr rfl⟩
theorem outd : Statement (.outd) := ⟨rfl, Nat.le_of_ble_eq_true rfl, Nat.le_of_ble_eq_true rfl, .inr rfl⟩
theorem ldir : Statement (.ldir) := ⟨rfl, Nat.le_of_ble_eq_true rfl, Nat.le_of_ble_eq_true rfl, .inr rfl⟩
theorem cpir : Statement (.cpir) := ⟨rfl, Nat.le_of_ble_eq_true rfl, Nat.le_of_ble_eq_true rfl, .inr rfl⟩
theorem inir : Statement (.inir) := ⟨rfl, Nat.le_of_ble_eq_true rfl, Nat.le_of_ble_eq_true rfl, .inr rfl⟩
theorem otir : Statement (.otir) := ⟨rfl, Nat.le_of_ble_eq_true rfl, Nat.le_of_ble_eq_true rfl, .inr rfl⟩
theorem lddr : Statement (.lddr) := ⟨rfl, Nat.le_of_ble_eq_true rfl, Nat.le_of_ble_eq_true rfl, .inr rfl⟩
theorem cpdr : Statement (.cpdr) := ⟨rfl, Nat.le_of_ble_eq_true rfl, Nat.le_of_ble_eq_true rfl, .inr rfl⟩
theorem indr : Statement (.indr) := ⟨rfl, Nat.le_of_ble_eq_true rfl, Nat.le_of_ble_eq_true rfl, .inr rfl⟩
theorem otdr : Statement (.otdr) := ⟨rfl, Nat.le_of_ble_eq_true rfl, Nat.le_of_ble_eq_true rfl, .inr rfl⟩
theorem nopEd1 (y : BitVec 3) : Statement (.nopEd1 y) := ⟨rfl, Nat.le_of_ble_eq_true rfl, Nat.le_of_ble_eq_true rfl, .inr rfl⟩
theorem nopEd0 (x : BitVec 6) : Statement (.nopEd0 x) := ⟨rfl, Nat.le_of_ble_eq_true rfl, Nat.le_of_ble_eq_true rfl, .inr rfl⟩
theorem nopEd3 (x : BitVec 6) : Statement (.nopEd3 x) := ⟨rfl, Nat.le_of_ble_eq_true rfl, Nat.le_of_ble_eq_true rfl, .inr rfl⟩
theorem nopEd2 (y : BitVec 3) (z : BitVec 3) : Statement (.nopEd2 y z) := ⟨rfl, Nat.le_of_ble_eq_true rfl, Nat.le_of_ble_eq_true rfl, .inr rfl⟩
theorem addIxPp (i : Idx) (pp : PairX) : Statement (.addIxPp i pp) := ⟨rfl, Nat.le_of_ble_eq_true rfl, Nat.le_of_ble_eq_true rfl, .inr rfl⟩
theorem ldIxNn (i : Idx) (nn : Word) : Statement (.ldIxNn i nn) := ⟨rfl, Nat.le_of_ble_eq_true rfl, Nat.le_of_ble_eq_true rfl, .inr rfl⟩
theorem ldMemIx (i : Idx) (nn : Word) : Statement (.ldMemIx i nn) := ⟨rfl, Nat.le_of_ble_eq_true rfl, Nat.le_of_ble_eq_true rfl, .inr rfl⟩
theorem incIx (i : Idx) : Statement (.incIx i) := ⟨rfl, Nat.le_of_ble_eq_true rfl, Nat.le_of_ble_eq_true rfl, .inr rfl⟩
theorem ldIxMem (i : Idx) (nn : Word) : Statement (.ldIxMem i nn) := ⟨rfl, Nat.le_of_ble_eq_true rfl, Nat.le_of_ble_eq_true rfl, .inr rfl⟩
theorem decIx (i : Idx) : Statement (.decIx i) := ⟨rfl, Nat.le_of_ble_eq_true rfl, Nat.le_of_ble_eq_true rfl, .inr rfl⟩
theorem incHalf (i : Idx) (h : Half) : Statement (.incHalf i h) := ⟨rfl, Nat.le_of_ble_eq_true rfl, Nat.le_of_ble_eq_true rfl, .inr rfl⟩
theorem decHalf (i : Idx) (h : Half) : Statement (.decHalf i h) := ⟨rfl, Nat.le_of_ble_eq_true rfl, Nat.le_of_ble_eq_true rfl, .inr rfl⟩
theorem ldHalfN (i : Idx) (h : Half) (n : Byte) : Statement (.ldHalfN i h n) := ⟨rfl, Nat.le_of_ble_eq_true rfl, Nat.le_of_ble_eq_true rfl, .inr rfl⟩
theorem incX (i : Idx) (d : Byte) : Statement (.incX i d) := ⟨rfl, Nat.le_of_ble_eq_true rfl, Nat.le_of_ble_eq_true rfl, .inr rfl⟩
theorem decX (i : Idx) (d : Byte) : Statement (.decX i d) := ⟨rfl, Nat.le_of_ble_eq_true rfl, Nat.le_of_ble_eq_true rfl, .inr rfl⟩
theorem ldXN (i : Idx) (d : Byte) (n : Byte) : Statement (.ldXN i d n) := ⟨rfl, Nat.le_of_ble_eq_true rfl, Nat.le_of_ble_eq_true rfl, .inr rfl⟩
theorem ldRxRy (i : Idx) (r : RegX) (r2 : RegX) : Statement (.ldRxRy i r r2) := ⟨rfl, Nat.le_of_ble_eq_true rfl, Nat.le_of_ble_eq_true rfl, .inr rfl⟩
theorem ldRX (i : Idx) (r : Reg8) (d : Byte) : Statement (.ldRX i r d) := ⟨rfl, Nat.le_of_ble_eq_true rfl, Nat.le_of_ble_eq_true rfl, .inr rfl⟩
theorem ldXR (i : Idx) (d : Byte) (r : Reg8) : Statement (.ldXR i d r) := ⟨rfl, Nat.le_of_ble_eq_true rfl, Nat.le_of_ble_eq_true rfl, .inr rfl⟩
theorem addAHalf (i : Idx) (h : Half) : Statement (.addAHalf i h) := ⟨rfl, Nat.le_of_ble_eq_true rfl, Nat.le_of_ble_eq_true rfl, .inr rfl⟩
theorem addAX (i : Idx) (d : Byte) : Statement (.addAX i d) := ⟨rfl, Nat.le_of_ble_eq_true rfl, Nat.le_of_ble_eq_true rfl, .inr rfl⟩
theorem adcAHalf (i : Idx) (h : Half) : Statement (.adcAHalf i h) := ⟨rfl, Nat.le_of_ble_eq_true rfl, Nat.le_of_ble_eq_true rfl, .inr rfl⟩
theorem adcAX (i : Idx) (d : Byte) : Statement (.adcAX i d) := ⟨rfl, Nat.le_of_ble_eq_true rfl, Nat.le_of_ble_eq_true rfl, .inr rfl⟩
theorem subHalf (i : Idx) (h : Half) : Statement (.subHalf i h) := ⟨rfl, Nat.le_of_ble_eq_true rfl, Nat.le_of_ble_eq_true rfl, .inr rfl⟩
theorem subX (i : Idx) (d : Byte) : Statement (.subX i d) := ⟨rfl, Nat.le_of_ble_eq_true rfl, Nat.le_of_ble_eq_true rfl, .inr rfl⟩
theorem sbcAHalf (i : Idx) (h : Half) : Statement (.sbcAHalf i h) := ⟨rfl, Nat.le_of_ble_eq_true rfl, Nat.le_of_ble_eq_true rfl, .inr rfl⟩
theorem sbcAX (i : Idx) (d : Byte) : Statement (.sbcAX i d) := ⟨rfl, Nat.le_of_ble_eq_true rfl, Nat.le_of_ble_eq_true rfl, .inr rfl⟩
theorem andHalf (i : Idx) (h : Half) : Statement (.andHalf i h) := ⟨rfl, Nat.le_of_ble_eq_true rfl, Nat.le_of_ble_eq_true rfl, .inr rfl⟩
theorem andX (i : Idx) (d : Byte) : Statement (.andX i d) := ⟨rfl, Nat.le_of_ble_eq_true rfl, Nat.le_of_ble_eq_true rfl, .inr rfl⟩
theorem xorHalf (i : Idx) (h : Half) : Statement (.xorHalf i h) := ⟨rfl, Nat.le_of_ble_eq_true rfl, Nat.le_of_ble_eq_true rfl, .inr rfl⟩
theorem xorX (i : Idx) (d : Byte) : Statement (.xorX i d) := ⟨rfl, Nat.le_of_ble_eq_true rfl, Nat.le_of_ble_eq_true rfl, .inr rfl⟩
theorem orHalf (i : Idx) (h : Half) : Statement (.orHalf i h) := ⟨rfl, Nat.le_of_ble_eq_true rfl, Nat.le_of_ble_eq_true rfl, .inr rfl⟩
theorem orX (i : Idx) (d : Byte) : Statement (.orX i d) := ⟨rfl, Nat.le_of_ble_eq_true rfl, Nat.le_of_ble_eq_true rfl, .inr rfl⟩
theorem cpHalf (i : Idx) (h : Half) : Statement (.cpHalf i h) := ⟨rfl, Nat.le_of_ble_eq_true rfl, Nat.le_of_ble_eq_true rfl, .inr rfl⟩
theorem cpX (i : Idx) (d : Byte) : Statement (.cpX i d) := ⟨rfl, Nat.le_of_ble_eq_true rfl, Nat.le_of_ble_eq_true rfl, .inr rfl⟩
theorem popIx (i : Idx) : Statement (.popIx i) := ⟨rfl, Nat.le_of_ble_eq_true rfl, Nat.le_of_ble_eq_true rfl, .inr rfl⟩
theorem exSpIx (i : Idx) : Statement (.exSpIx i) := ⟨rfl, Nat.le_of_ble_eq_true rfl, Nat.le_of_ble_eq_true rfl, .inr rfl⟩
theorem pushIx (i : Idx) : Statement (.pushIx i) := ⟨rfl, Nat.le_of_ble_eq_true rfl, Nat.le_of_ble_eq_true rfl, .inr rfl⟩
theorem jpIx (i : Idx) : Statement (.jpIx i) := ⟨rfl, Nat.le_of_ble_eq_true rfl, Nat.le_of_ble_eq_true rfl, .inr rfl⟩
theorem ldSpIx (i : Idx) : Statement (.ldSpIx i) := ⟨rfl, Nat.le_of_ble_eq_true rfl, Nat.le_of_ble_eq_true rfl, .inr rfl⟩
theorem ignoredPrefix (i : Idx) (next : Byte) : Statement (.ignoredPrefix i next) := ⟨rfl, Nat.le_of_ble_eq_true rfl, Nat.le_of_ble_eq_true rfl, .inl rfl⟩
theorem rlcX (i : Idx) (d : Byte) : Statement (.rlcX i d) := ⟨rfl, Nat.le_of_ble_eq_true rfl, Nat.le_of_ble_eq_true rfl, .inr rfl⟩
theorem rlcXR (i : Idx) (d : Byte) (r : Reg8) : Statement (.rlcXR i d r) := ⟨rfl, Nat.le_of_ble_eq_true rfl, Nat.le_of_ble_eq_true rfl, .inr rfl⟩
theorem rrcX (i : Idx) (d : Byte) : Statement (.rrcX i d) := ⟨rfl, Nat.le_of_ble_eq_true rfl, Nat.le_of_ble_eq_true rfl, .inr rfl⟩
theorem rrcXR (i : Idx) (d : Byte) (r : Reg8) : Statement (.rrcXR i d r) := ⟨rfl, Nat.le_of_ble_eq_true rfl, Nat.le_of_ble_eq_true rfl, .inr rfl⟩
theorem rlX (i : Idx) (d : Byte) : Statement (.rlX i d) := ⟨rfl, Nat.le_of_ble_eq_true rfl, Nat.le_of_ble_eq_true rfl, .inr rfl⟩
theorem rlXR (i : Idx) (d : Byte) (r : Reg8) : Statement (.rlXR i d r) := ⟨rfl, Nat.le_of_ble_eq_true rfl, Nat.le_of_ble_eq_true rfl, .inr rfl⟩
theorem rrX (i : Idx) (d : Byte) : Statement (.rrX i d) := ⟨rfl, Nat.le_of_ble_eq_true rfl, Nat.le_of_ble_eq_true rfl, .inr rfl⟩
theorem rrXR (i : Idx) (d : Byte) (r : Reg8) : Statement (.rrXR i d r) := ⟨rfl, Nat.le_of_ble_eq_true rfl, Nat.le_of_ble_eq_true rfl, .inr rfl⟩
theorem slaX (i : Idx) (d : Byte) : Statement (.slaX i d) := ⟨rfl, Nat.le_of_ble_eq_true rfl, Nat.le_of_ble_eq_true rfl, .inr rfl⟩
theorem slaXR (i : Idx) (d : Byte) (r : Reg8) : Statement (.slaXR i d r) := ⟨rfl, Nat.le_of_ble_eq_true rfl, Nat.le_of_ble_eq_true rfl, .inr rfl⟩
theorem sraX (i : Idx) (d : Byte) : Statement (.sraX i d) := ⟨rfl, Nat.le_of_ble_eq_true rfl, Nat.le_of_ble_eq_true rfl, .inr rfl⟩
theorem sraXR (i : Idx) (d : Byte) (r : Reg8) : Statement (.sraXR i d r) := ⟨rfl, Nat.le_of_ble_eq_true rfl, Nat.le_of_ble_eq_true rfl, .inr rfl⟩
theorem sllX (i : Idx) (d : Byte) : Statement (.sllX i d) := ⟨rfl, Nat.le_of_ble_eq_true rfl, Nat.le_of_ble_eq_true rfl, .inr rfl⟩
theorem sllXR (i : Idx) (d : Byte) (r : Reg8) : Statement (.sllXR i d r) := ⟨rfl, Nat.le_of_ble_eq_true rfl, Nat.le_of_ble_eq_true rfl, .inr rfl⟩
theorem srlX (i : Idx) (d : Byte) : Statement (.srlX i d) := ⟨rfl, Nat.le_of_ble_eq_true rfl, Nat.le_of_ble_eq_true rfl, .inr rfl⟩
theorem srlXR (i : Idx) (d : Byte) (r : Reg8) : Statement (.srlXR i d r) := ⟨rfl, Nat.le_of_ble_eq_true rfl, Nat.le_of_ble_eq_true rfl, .inr rfl⟩
theorem bitX (i : Idx) (d : Byte) (b : BitVec 3) (z : BitVec 3) : Statement (.bitX i d b z) := ⟨rfl, Nat.le_of_ble_eq_true rfl, Nat.le_of_ble_eq_true rfl, .inr rfl⟩
theorem resX (i : Idx) (d : Byte) (b : BitVec 3) : Statement (.resX i d b) := ⟨rfl, Nat.le_of_ble_eq_true rfl, Nat.le_of_ble_eq_true rfl, .inr rfl⟩
theorem resXR (i : Idx) (d : Byte) (b : BitVec 3) (r : Reg8) : Statement (.resXR i d b r) := ⟨rfl, Nat.le_of_ble_eq_true rfl, Nat.le_of_ble_eq_true rfl, .inr rfl⟩
theorem setX (i : Idx) (d : Byte) (b : BitVec 3) : Statement (.setX i d b) := ⟨rfl, Nat.le_of_ble_eq_true rfl, Nat.le_of_ble_eq_true rfl, .inr rfl⟩
theorem setXR (i : Idx) (d : Byte) (b : BitVec 3) (r : Reg8) : Statement (.setXR i d b r) := ⟨rfl, Nat.le_of_ble_eq_true rfl, Nat.le_of_ble_eq_true rfl, .inr rfl⟩

end Encoded

end Sys2Proof.Laws
end

