-- ==== Sys2Proof/Laws/Stores.lean ====
section
/-! SUPPORT. Stores, pushes and acceptances in the terms of Safety.lean: StoresByte and StoresWord from what a meaning does to
memory, and each operation as an update of named fields. -/

namespace Sys2Proof.Machine

/-- Two states with one memory read alike. -/
theorem State.read_congr {s t : State} (h : t.mem = s.mem) (a : Word) : t.read a = s.read a := by
  unfold State.read; rw [h]

/-- A state whose memory is that after a one-byte store has stored that byte. -/
theorem storesByte_of_mem {s t : State} {a : Word} {v : Byte} (hw : s.mem.wf = true) (h : t.mem = (s.write a v).mem) :
    StoresByte s t a v :=
  ⟨by rw [State.read_congr h, State.read_write_same s a v hw],
   fun b hb => by rw [State.read_congr h, State.read_write_other s v hb]⟩

/-- A word store changes nothing but memory. -/
theorem State.write16_eq (s : State) (a v : Word) : s.write16 a v = { s with mem := (s.write16 a v).mem } := by
  unfold State.write16 State.write; split <;> split <;> rfl

/-- A push changes SP and memory. -/
theorem State.push_eq (s : State) (v : Word) :
    s.push v = { s with regs := { s.regs with sp := s.regs.sp - 2 }, mem := (s.push v).mem } := by
  unfold State.push
  rw [State.write_eq, State.write_eq (s.setSp (s.regs.sp - 1))]
  rfl

/-- No address is its own successor. -/
theorem ne_add_one (a : Word) : a ≠ a + 1 := by
  intro h
  have e := congrArg BitVec.toNat h
  have := a.isLt
  simp at e
  omega

/-- A state whose memory is that after a word store has stored that word. -/
theorem storesWord_of_mem {s t : State} {a v : Word} (hw : s.mem.wf = true) (h : t.mem = (s.write16 a v).mem) :
    StoresWord s t a v := by
  refine ⟨?_, ?_, fun b h0 h1 => ?_⟩
  · rw [State.read_congr h, State.write16, State.read_write_other _ _ (ne_add_one a), State.read_write_same _ _ _ hw]
  · rw [State.read_congr h, State.write16, State.read_write_same _ _ _ (State.write_wf _ _ _ hw), State.write_params,
      State.read_write_other _ _ (ne_add_one a).symm]
  · rw [State.read_congr h, State.read_write16_other _ _ h0 h1]

/-- What each byte reads as after a store, in a canonical memory. -/
theorem State.get_write (s : State) (a : Word) (v : Byte) (k : Nat) (hw : s.mem.wf = true) :
    (s.write a v).mem.get k = if k = a.toNat ∧ s.params.romLimit ≤ a.toNat then v else s.mem.get k := by
  rw [State.write_mem]
  split
  · rw [if_neg (by omega)]
  · by_cases hk : k = a.toNat
    · rw [if_pos ⟨hk, by omega⟩, hk]; exact Memory.get_set_same a.toNat v hw
    · rw [if_neg (fun h => hk h.1)]; exact Memory.get_set_other s.mem v hk

/-- Stores to two addresses can be made in either order. -/
theorem State.write_comm (s : State) {a b : Word} (v w : Byte) (h : a ≠ b) (hw : s.mem.wf = true) :
    ((s.write a v).write b w).mem = ((s.write b w).write a v).mem := by
  have hn : a.toNat ≠ b.toNat := fun e => h (BitVec.eq_of_toNat_eq e)
  refine Memory.ext (lo := 0) (write_wf _ _ _ (write_wf _ _ _ hw)) (write_wf _ _ _ (write_wf _ _ _ hw)) fun k => ?_
  rw [get_write _ _ _ _ (write_wf _ _ _ hw), get_write _ _ _ _ (write_wf _ _ _ hw), get_write _ _ _ _ hw,
    get_write _ _ _ _ hw, write_params, write_params]
  split <;> split <;> first | rfl | omega

/-- A push stores the word at SP - 2. -/
theorem State.push_mem_write16 (s : State) (v : Word) (hw : s.mem.wf = true) :
    (s.push v).mem = (s.write16 (s.regs.sp - 2) v).mem := by
  have e : s.regs.sp - 2 + 1 = s.regs.sp - 1 := by bv_omega
  have hne : s.regs.sp - 1 ≠ s.regs.sp - 2 := by
    rw [← e]; exact (ne_add_one _).symm
  rw [State.push_mem, State.write16, e, State.write_comm _ _ _ hne hw]

/-- A push, as a store of a word. -/
theorem storesWord_of_push {s t : State} {v : Word} (hw : s.mem.wf = true) (h : t.mem = (s.push v).mem) :
    StoresWord s t (s.regs.sp - 2) v :=
  storesWord_of_mem hw (h.trans (s.push_mem_write16 v hw))

end Sys2Proof.Machine
end

