-- ==== Sys2Proof/Machine/AsmText.lean ====
section
/-! DEFINITION. The assembler syntax (30_encoding.md R140) and the diagnostic string of an instruction record (R175). The string
is a view of the record's address and bytes: it is no part of State (D39, log 10). -/

namespace Sys2Proof

open Sys2Proof.Machine

/-- A word as R9 writes it: `0x1234`. -/
def hexWord (v : Word) : String :=
  "0x" ++ hexDigit (v.toNat / 4096) ++ hexDigit (v.toNat / 256) ++ hexDigit (v.toNat / 16) ++ hexDigit v.toNat

/-- The target address of JR, JR cc and DJNZ (R131, R140). -/
def targetText (pc0 : Word) (e : Byte) : String := hexWord (pc0 + 2 + e.signExtend 16)

def Reg8.text : Reg8 → String
  | .b => "B"
  | .c => "C"
  | .d => "D"
  | .e => "E"
  | .h => "H"
  | .l => "L"
  | .a => "A"

def Idx.text : Idx → String
  | .ix => "IX"
  | .iy => "IY"

/-- IXh, IXl, IYh, IYl. -/
def Half.text (h : Half) (i : Idx) : String :=
  match h with
  | .hi => i.text ++ "h"
  | .lo => i.text ++ "l"

def RegX.text (r : RegX) (i : Idx) : String :=
  match r with
  | .b => "B"
  | .c => "C"
  | .d => "D"
  | .e => "E"
  | .xh => i.text ++ "h"
  | .xl => i.text ++ "l"
  | .a => "A"

def Pair.text : Pair → String
  | .bc => "BC"
  | .de => "DE"
  | .hl => "HL"
  | .sp => "SP"

def PairQ.text : PairQ → String
  | .bc => "BC"
  | .de => "DE"
  | .hl => "HL"
  | .af => "AF"

def PairX.text (p : PairX) (i : Idx) : String :=
  match p with
  | .bc => "BC"
  | .de => "DE"
  | .xy => i.text
  | .sp => "SP"

def Cond.text : Cond → String
  | .nz => "NZ"
  | .z => "Z"
  | .nc => "NC"
  | .c => "C"
  | .po => "PO"
  | .pe => "PE"
  | .p => "P"
  | .m => "M"

/-- `(IX+d)` with d signed, in hexadecimal (R140). -/
def dispText (i : Idx) (d : Byte) : String :=
  if d.toNat < 128 then "(" ++ i.text ++ "+" ++ hexByte d ++ ")" else "(" ++ i.text ++ "-" ++ hexByte (-d) ++ ")"

/-- The mnemonic and operands of an instruction whose first byte is at `pc0`, in the syntax of R140. An
ignored prefix has no spelling in that syntax, and the text for it is the model's (DESIGN CHOICE, log 10). -/
def Instr.text (pc0 : Word) : Instr → String
  | .nop => "NOP"
  | .exAfAf => "EX AF,AF'"
  | .djnz e => "DJNZ " ++ targetText pc0 e
  | .jr e => "JR " ++ targetText pc0 e
  | .jrCc cc e => "JR " ++ cc.text ++ "," ++ targetText pc0 e
  | .ldDdNn dd nn => "LD " ++ dd.text ++ "," ++ hexWord nn
  | .addHlSs ss => "ADD HL," ++ ss.text
  | .ldBcA => "LD (BC),A"
  | .ldDeA => "LD (DE),A"
  | .ldMemHl nn => "LD (" ++ hexWord nn ++ "),HL"
  | .ldMemA nn => "LD (" ++ hexWord nn ++ "),A"
  | .ldABc => "LD A,(BC)"
  | .ldADe => "LD A,(DE)"
  | .ldHlMem nn => "LD HL,(" ++ hexWord nn ++ ")"
  | .ldAMem nn => "LD A,(" ++ hexWord nn ++ ")"
  | .incSs ss => "INC " ++ ss.text
  | .decSs ss => "DEC " ++ ss.text
  | .incR r => "INC " ++ r.text
  | .incM => "INC (HL)"
  | .decR r => "DEC " ++ r.text
  | .decM => "DEC (HL)"
  | .ldRN r n => "LD " ++ r.text ++ "," ++ hexByte n
  | .ldMN n => "LD (HL)," ++ hexByte n
  | .rlca => "RLCA"
  | .rrca => "RRCA"
  | .rla => "RLA"
  | .rra => "RRA"
  | .daa => "DAA"
  | .cpl => "CPL"
  | .scf => "SCF"
  | .ccf => "CCF"
  | .ldRR r r2 => "LD " ++ r.text ++ "," ++ r2.text
  | .ldRM r => "LD " ++ r.text ++ ",(HL)"
  | .ldMR r => "LD (HL)," ++ r.text
  | .halt => "HALT"
  | .addAR r => "ADD A," ++ r.text
  | .addAM => "ADD A,(HL)"
  | .addAN n => "ADD A," ++ hexByte n
  | .adcAR r => "ADC A," ++ r.text
  | .adcAM => "ADC A,(HL)"
  | .adcAN n => "ADC A," ++ hexByte n
  | .subR r => "SUB " ++ r.text
  | .subM => "SUB (HL)"
  | .subN n => "SUB " ++ hexByte n
  | .sbcAR r => "SBC A," ++ r.text
  | .sbcAM => "SBC A,(HL)"
  | .sbcAN n => "SBC A," ++ hexByte n
  | .andR r => "AND " ++ r.text
  | .andM => "AND (HL)"
  | .andN n => "AND " ++ hexByte n
  | .xorR r => "XOR " ++ r.text
  | .xorM => "XOR (HL)"
  | .xorN n => "XOR " ++ hexByte n
  | .orR r => "OR " ++ r.text
  | .orM => "OR (HL)"
  | .orN n => "OR " ++ hexByte n
  | .cpR r => "CP " ++ r.text
  | .cpM => "CP (HL)"
  | .cpN n => "CP " ++ hexByte n
  | .retCc cc => "RET " ++ cc.text
  | .popQq qq => "POP " ++ qq.text
  | .ret => "RET"
  | .exx => "EXX"
  | .jpHl => "JP (HL)"
  | .ldSpHl => "LD SP,HL"
  | .jpCcNn cc nn => "JP " ++ cc.text ++ "," ++ hexWord nn
  | .jpNn nn => "JP " ++ hexWord nn
  | .outNA n => "OUT (" ++ hexByte n ++ "),A"
  | .inAN n => "IN A,(" ++ hexByte n ++ ")"
  | .exSpHl => "EX (SP),HL"
  | .exDeHl => "EX DE,HL"
  | .di => "DI"
  | .ei => "EI"
  | .callCcNn cc nn => "CALL " ++ cc.text ++ "," ++ hexWord nn
  | .pushQq qq => "PUSH " ++ qq.text
  | .callNn nn => "CALL " ++ hexWord nn
  | .rst p => "RST " ++ hexByte (BitVec.ofNat 8 (p.toNat * 8))
  | .rlcR r => "RLC " ++ r.text
  | .rlcM => "RLC (HL)"
  | .rrcR r => "RRC " ++ r.text
  | .rrcM => "RRC (HL)"
  | .rlR r => "RL " ++ r.text
  | .rlM => "RL (HL)"
  | .rrR r => "RR " ++ r.text
  | .rrM => "RR (HL)"
  | .slaR r => "SLA " ++ r.text
  | .slaM => "SLA (HL)"
  | .sraR r => "SRA " ++ r.text
  | .sraM => "SRA (HL)"
  | .sllR r => "SLL " ++ r.text
  | .sllM => "SLL (HL)"
  | .srlR r => "SRL " ++ r.text
  | .srlM => "SRL (HL)"
  | .bitR b r => "BIT " ++ toString b.toNat ++ "," ++ r.text
  | .bitM b => "BIT " ++ toString b.toNat ++ ",(HL)"
  | .resR b r => "RES " ++ toString b.toNat ++ "," ++ r.text
  | .resM b => "RES " ++ toString b.toNat ++ ",(HL)"
  | .setR b r => "SET " ++ toString b.toNat ++ "," ++ r.text
  | .setM b => "SET " ++ toString b.toNat ++ ",(HL)"
  | .inRC r => "IN " ++ r.text ++ ",(C)"
  | .inFC => "IN F,(C)"
  | .outCR r => "OUT (C)," ++ r.text
  | .outC0 => "OUT (C),0"
  | .sbcHlSs ss => "SBC HL," ++ ss.text
  | .adcHlSs ss => "ADC HL," ++ ss.text
  | .ldMemDd dd nn => "LD (" ++ hexWord nn ++ ")," ++ dd.text
  | .ldDdMem dd nn => "LD " ++ dd.text ++ ",(" ++ hexWord nn ++ ")"
  | .neg _ => "NEG"
  | .retn _ => "RETN"
  | .reti => "RETI"
  | .im0 _ => "IM 0"
  | .im1 _ => "IM 1"
  | .im2 _ => "IM 2"
  | .ldIA => "LD I,A"
  | .ldRA => "LD R,A"
  | .ldAI => "LD A,I"
  | .ldAR => "LD A,R"
  | .rrd => "RRD"
  | .rld => "RLD"
  | .ldi => "LDI"
  | .cpi => "CPI"
  | .ini => "INI"
  | .outi => "OUTI"
  | .ldd => "LDD"
  | .cpd => "CPD"
  | .ind => "IND"
  | .outd => "OUTD"
  | .ldir => "LDIR"
  | .cpir => "CPIR"
  | .inir => "INIR"
  | .otir => "OTIR"
  | .lddr => "LDDR"
  | .cpdr => "CPDR"
  | .indr => "INDR"
  | .otdr => "OTDR"
  | .nopEd1 _ => "NOP (ED undefined)"
  | .nopEd0 _ => "NOP (ED undefined)"
  | .nopEd3 _ => "NOP (ED undefined)"
  | .nopEd2 _ _ => "NOP (ED undefined)"
  | .addIxPp i pp => "ADD " ++ i.text ++ "," ++ pp.text i
  | .ldIxNn i nn => "LD " ++ i.text ++ "," ++ hexWord nn
  | .ldMemIx i nn => "LD (" ++ hexWord nn ++ ")," ++ i.text
  | .incIx i => "INC " ++ i.text
  | .ldIxMem i nn => "LD " ++ i.text ++ ",(" ++ hexWord nn ++ ")"
  | .decIx i => "DEC " ++ i.text
  | .incHalf i h => "INC " ++ h.text i
  | .decHalf i h => "DEC " ++ h.text i
  | .ldHalfN i h n => "LD " ++ h.text i ++ "," ++ hexByte n
  | .incX i d => "INC " ++ dispText i d
  | .decX i d => "DEC " ++ dispText i d
  | .ldXN i d n => "LD " ++ dispText i d ++ "," ++ hexByte n
  | .ldRxRy i r r2 => "LD " ++ r.text i ++ "," ++ r2.text i
  | .ldRX i r d => "LD " ++ r.text ++ "," ++ dispText i d
  | .ldXR i d r => "LD " ++ dispText i d ++ "," ++ r.text
  | .addAHalf i h => "ADD A," ++ h.text i
  | .addAX i d => "ADD A," ++ dispText i d
  | .adcAHalf i h => "ADC A," ++ h.text i
  | .adcAX i d => "ADC A," ++ dispText i d
  | .subHalf i h => "SUB " ++ h.text i
  | .subX i d => "SUB " ++ dispText i d
  | .sbcAHalf i h => "SBC A," ++ h.text i
  | .sbcAX i d => "SBC A," ++ dispText i d
  | .andHalf i h => "AND " ++ h.text i
  | .andX i d => "AND " ++ dispText i d
  | .xorHalf i h => "XOR " ++ h.text i
  | .xorX i d => "XOR " ++ dispText i d
  | .orHalf i h => "OR " ++ h.text i
  | .orX i d => "OR " ++ dispText i d
  | .cpHalf i h => "CP " ++ h.text i
  | .cpX i d => "CP " ++ dispText i d
  | .popIx i => "POP " ++ i.text
  | .exSpIx i => "EX (SP)," ++ i.text
  | .pushIx i => "PUSH " ++ i.text
  | .jpIx i => "JP (" ++ i.text ++ ")"
  | .ldSpIx i => "LD SP," ++ i.text
  | .ignoredPrefix i _ => i.text ++ " prefix (ignored)"
  | .rlcX i d => "RLC " ++ dispText i d
  | .rlcXR i d r => "RLC " ++ dispText i d ++ "," ++ r.text
  | .rrcX i d => "RRC " ++ dispText i d
  | .rrcXR i d r => "RRC " ++ dispText i d ++ "," ++ r.text
  | .rlX i d => "RL " ++ dispText i d
  | .rlXR i d r => "RL " ++ dispText i d ++ "," ++ r.text
  | .rrX i d => "RR " ++ dispText i d
  | .rrXR i d r => "RR " ++ dispText i d ++ "," ++ r.text
  | .slaX i d => "SLA " ++ dispText i d
  | .slaXR i d r => "SLA " ++ dispText i d ++ "," ++ r.text
  | .sraX i d => "SRA " ++ dispText i d
  | .sraXR i d r => "SRA " ++ dispText i d ++ "," ++ r.text
  | .sllX i d => "SLL " ++ dispText i d
  | .sllXR i d r => "SLL " ++ dispText i d ++ "," ++ r.text
  | .srlX i d => "SRL " ++ dispText i d
  | .srlXR i d r => "SRL " ++ dispText i d ++ "," ++ r.text
  | .bitX i d b _ => "BIT " ++ toString b.toNat ++ "," ++ dispText i d
  | .resX i d b => "RES " ++ toString b.toNat ++ "," ++ dispText i d
  | .resXR i d b r => "RES " ++ toString b.toNat ++ "," ++ dispText i d ++ "," ++ r.text
  | .setX i d b => "SET " ++ toString b.toNat ++ "," ++ dispText i d
  | .setXR i d b r => "SET " ++ toString b.toNat ++ "," ++ dispText i d ++ "," ++ r.text

/-- `mnemonic(op)` of a record (R171, R175), from its address and bytes. -/
def Machine.InsnRecord.text (r : Machine.InsnRecord) : String :=
  (decode4 (r.bytes.getD 0 0) (r.bytes.getD 1 0) (r.bytes.getD 2 0) (r.bytes.getD 3 0)).text r.addr

end Sys2Proof
end

