-- ==== Sys2Proof/Tests/Slice0.lean ====
section
/-! SUPPORT. The model's own tests: ill-formed terms, words decoded, one step of the spec's vectors, a few tape and interrupt
examples, and a witness for the hypotheses of every statement that has some. Expected results are the spec's own, named in each
docstring (V, T, L, A and E rows of 95_test_vectors.md, examples in rules). -/

set_option maxRecDepth 16000

namespace Sys2Proof.Tests

open Sys2Proof Sys2Proof.Machine

/-! ## Well-formedness: each check refuses an ill-formed term -/

theorem test_jrCc_code_above_3 : (Instr.jrCc .po 0).wellFormed = false := by decide
theorem test_ldRxRy_without_half : (Instr.ldRxRy .ix .b .c).wellFormed = false := by decide
theorem test_retn_y_1 : (Instr.retn 1).wellFormed = false := by decide
theorem test_im0_y_2 : (Instr.im0 2).wellFormed = false := by decide
theorem test_im1_y_3 : (Instr.im1 3).wellFormed = false := by decide
theorem test_im2_y_6 : (Instr.im2 6).wellFormed = false := by decide
theorem test_nopEd1_y_5 : (Instr.nopEd1 5).wellFormed = false := by decide
theorem test_nopEd2_block : (Instr.nopEd2 4 3).wellFormed = false := by decide
theorem test_ignoredPrefix_indexable : (Instr.ignoredPrefix .ix 0x21).wellFormed = false := by decide

/-! ## Decoding: words written bit by bit from the encodings of file 30 and the rules -/

/-- LD D,(HL): 01 yyy 110 with y = 2 (R202). -/
theorem test_decode_ld_r_hl : decode [0b01010110] = .ok (.ldRM .d) := by decide
/-- LD BC,nn: 00 00 0001, low byte first (R220). -/
theorem test_decode_ld_dd_nn : decode [0b00000001, 0x34, 0x12] = .ok (.ldDdNn .bc 0x1234) := by decide
/-- PUSH AF: 11 11 0101 (R230). -/
theorem test_decode_push : decode [0b11110101] = .ok (.pushQq .af) := by decide
/-- EX (SP),IY: FD 11100011 (R238). -/
theorem test_decode_ex_sp_iy : decode [0xFD, 0b11100011] = .ok (.exSpIx .iy) := by decide
/-- CPDR: ED 10 111 001 (R246). -/
theorem test_decode_cpdr : decode [0xED, 0b10111001] = .ok .cpdr := by decide
/-- XOR E: 10 101 011 (R259). -/
theorem test_decode_xor_r : decode [0b10101011] = .ok (.xorR .e) := by decide
/-- DEC (IX+d): DD 00110101 d (R266). -/
theorem test_decode_dec_ixd : decode [0xDD, 0b00110101, 0x80] = .ok (.decX .ix 0x80) := by decide
/-- ADD IY,SP: FD 00 11 1001 (R275). -/
theorem test_decode_add_iy_sp : decode [0xFD, 0b00111001] = .ok (.addIxPp .iy .sp) := by decide
/-- SRL (IY+d),A: FD CB d 00 111 111 (R312). -/
theorem test_decode_srl_copy : decode [0xFD, 0xCB, 0x7F, 0b00111111] = .ok (.srlXR .iy 0x7F .a) := by decide
/-- RES 5,(HL): CB 10 101 110 (R322). -/
theorem test_decode_res_hl : decode [0xCB, 0b10101110] = .ok (.resM 5) := by decide
/-- CALL PO,nn: 11 100 100 (R348). -/
theorem test_decode_call_cc : decode [0b11100100, 0x00, 0x90] = .ok (.callCcNn .po 0x9000) := by decide
/-- RST 38: 11 111 111 (R353). -/
theorem test_decode_rst : decode [0b11111111] = .ok (.rst 7) := by decide
/-- IN F,(C): ED 01 110 000, not IN (HL),(C) (R384). -/
theorem test_decode_in_f_c : decode [0xED, 0b01110000] = .ok .inFC := by decide
/-- OTIR: ED 10 110 011 (R393). -/
theorem test_decode_otir : decode [0xED, 0b10110011] = .ok .otir := by decide
/-- DD before a CB needs all four bytes (R137). -/
theorem test_decode_truncated : decode [0xDD, 0xCB, 0x05] = .error .truncated := by decide
/-- The word of JR e in the table's numbering: its match is 0x1800 (log 1). -/
theorem test_decodeTableWord : decodeTableWord 16 0x1805 = some (.jr 0x05) := by decide
/-- The encoder on the longest form. -/
theorem test_encode_ld_ixd_n : encode (.ldXN .ix 0xFE 0x77) = [0xDD, 0x36, 0xFE, 0x77] := by decide

/-! ## One step -/

/-- All zero. -/
def zero : Regs := { a := 0, f := 0, b := 0, c := 0, d := 0, e := 0, h := 0, l := 0, ix := 0, iy := 0, sp := 0 }

/-- Bytes placed in memory. -/
def place : List (Nat × Byte) → Memory
  | [] => []
  | c :: rest => (place rest).set c.1 c.2

/-- Bytes at consecutive addresses. -/
def cells : Nat → List Byte → List (Nat × Byte)
  | _, [] => []
  | a, v :: rest => (a, v) :: cells (a + 1) rest

/-- The start state of a vector: the code at 0x8000, these registers, these bytes, everything else 0. -/
def launched (code : List Byte) (r : Regs) (m : List (Nat × Byte)) : State :=
  { State.reset with regs := r, pc := 0x8000, mem := place (cells 0x8000 code ++ m) }

/-- "port answer v". -/
def answering (v : Byte) (s : State) : State := { s with env := { s.env with ports := .constant v } }

/-- The state after one step, if it completes. -/
def stepped (s : State) : Option State :=
  match step s with
  | .next t => some t
  | .fault _ => none
  | .refused _ => none

/-- The fault of one step, if it faults. -/
def faulted (s : State) : Option Fault :=
  match step s with
  | .next _ => none
  | .fault f => some f
  | .refused _ => none

/-- V4 (R203). -/
theorem test_ld_a_ixd : (stepped (launched [0xDD, 0x7E, 0xFF] { zero with ix := 0x9001 } [(0x9000, 0x44)])).map
    (fun t => (t.regs.a, t.memptr, t.t)) = some (0x44, 0x9000, 19) := by decide

/-- V7 (R205). -/
theorem test_ld_ixd_l : (stepped (launched [0xDD, 0x75, 0x80] { zero with l := 0x99, ix := 0x9080 } [])).map
    (fun t => (t.mem.get 0x9000, t.memptr, t.t)) = some (0x99, 0x9000, 19) := by decide

/-- V9 (R207). -/
theorem test_ld_iyd_n_wraps : (stepped (launched [0xFD, 0x36, 0x02, 0xAB] { zero with iy := 0xFFFF } [])).map
    (fun t => (t.mem.get 0x1, t.memptr, t.t)) = some (0xAB, 0x1, 19) := by decide

/-- V13 (R213). -/
theorem test_ld_nn_a : (stepped (launched [0x32, 0xFF, 0x90] { zero with a := 0x11 } [])).map
    (fun t => (t.mem.get 0x90FF, t.memptr, t.t)) = some (0x11, 0x1100, 13) := by decide

/-- V14 (R214). -/
theorem test_ld_a_i : (stepped ({ launched [0xED, 0x57] { zero with f := 0x1 } [] with i := 0x80, iff2 := true })).map
    (fun t => (t.regs.a, t.regs.f, t.t)) = some (0x80, 0x85, 9) := by decide

/-- V17 (R215). -/
theorem test_ld_a_r : (stepped ({ launched [0xED, 0x5F] zero [] with r := 0xFF })).map
    (fun t => (t.regs.a, t.regs.f, t.r, t.t)) = some (0x81, 0x80, 0x81, 9) := by decide

/-- V19 (R217). -/
theorem test_ld_r_a : (stepped (launched [0xED, 0x4F] { zero with a := 0x80 } [])).map
    (fun t => (t.r, t.t)) = some (0x80, 9) := by decide

/-- V21 (R218). -/
theorem test_ld_iyl_iyh : (stepped (launched [0xFD, 0x6C] { zero with iy := 0x1234 } [])).map
    (fun t => (t.regs.iy, t.t)) = some (0x1212, 8) := by decide

/-- V22 (R219). -/
theorem test_ld_ixh_n : (stepped (launched [0xDD, 0x26, 0x99] { zero with ix := 0x1234 } [])).map
    (fun t => (t.regs.ix, t.t)) = some (0x9934, 11) := by decide

/-- V26 (R223). -/
theorem test_ld_sp_nn_wraps : (stepped (launched [0xED, 0x7B, 0xFF, 0xFF] zero [(0xFFFF, 0x34), (0x0, 0x12)])).map
    (fun t => (t.regs.sp, t.t)) = some (0x1234, 20) := by decide

/-- V27 (R225). -/
theorem test_ld_nn_hl : (stepped (launched [0x22, 0x00, 0x90] { zero with h := 0xBE, l := 0xEF } [])).map
    (fun t => (t.mem.get 0x9000, t.mem.get 0x9001, t.memptr, t.t)) = some (0xEF, 0xBE, 0x9001, 16) := by decide

/-- V31 (R230). -/
theorem test_push_bc_wraps : (stepped (launched [0xC5] { zero with b := 0x12, c := 0x34 } [])).map
    (fun t => (t.regs.sp, t.mem.get 0xFFFE, t.mem.get 0xFFFF, t.t)) = some (0xFFFE, 0x34, 0x12, 11) := by decide

/-- V33 (R232). -/
theorem test_pop_af : (stepped (launched [0xF1] { zero with sp := 0x9000 } [(0x9000, 0xFF)])).map
    (fun t => (t.regs.f, t.regs.sp, t.t)) = some (0xFF, 0x9002, 10) := by decide

/-- V35 (R234). -/
theorem test_ex_de_hl : (stepped (launched [0xEB] { zero with d := 0x11, e := 0x11, h := 0x22, l := 0x22 } [])).map
    (fun t => (t.regs.d, t.regs.e, t.regs.h, t.regs.l, t.t)) = some (0x22, 0x22, 0x11, 0x11, 4) := by decide

/-- V36 (R235). -/
theorem test_ex_af_af : (stepped (launched [0x08] { zero with a := 0x12, f := 0x34 } [])).map
    (fun t => (t.regs.a, t.regs.f, t.shadow.a, t.t)) = some (0x0, 0x0, 0x12, 4) := by decide

/-- V37 (R236). -/
theorem test_exx : (stepped (launched [0xD9] { zero with b := 0x1, c := 0x2, d := 0x3, e := 0x4, h := 0x5, l := 0x6 } [])).map
    (fun t => (t.shadow.b, t.shadow.l, t.regs.b, t.t)) = some (0x01, 0x06, 0, 4) := by decide

/-- V38 (R237). -/
theorem test_ex_sp_hl :
    (stepped (launched [0xE3] { zero with h := 0x12, l := 0x34, sp := 0x9000 } [(0x9000, 0x78), (0x9001, 0x56)])).map
    (fun t => ((t.regs.h, t.regs.l, t.mem.get 0x9000), (t.mem.get 0x9001, t.memptr, t.t))) =
    some ((0x56, 0x78, 0x34), (0x12, 0x5678, 19)) := by decide

/-- V40 (R239). -/
theorem test_ldi : (stepped (launched [0xED, 0xA0] { zero with c := 0x2, d := 0xA0, h := 0x90 } [(0x9000, 0x0A)])).map
    (fun t => ((t.regs.f, t.regs.c, t.regs.e), (t.regs.l, t.mem.get 0xA000, t.t))) =
    some ((0x2C, 0x1, 0x1), (0x1, 0xA, 16)) := by decide

/-- V45 (R243). -/
theorem test_cpi : (stepped (launched [0xED, 0xA1] { zero with a := 0x10, c := 0x1, h := 0x90 } [(0x9000, 0x10)])).map
    (fun t => (t.regs.f, t.regs.c, t.regs.l, t.memptr, t.t)) = some (0x42, 0x0, 0x1, 0x1, 16) := by decide

/-- V47 (R245). -/
theorem test_cpd : (stepped (launched [0xED, 0xA9] { zero with c := 0x2, h := 0x90 } [(0x9000, 0x01)])).map
    (fun t => ((t.regs.f, t.regs.c, t.regs.h), (t.regs.l, t.memptr, t.t))) =
    some ((0xBE, 0x1, 0x8F), (0xFF, 0xFFFF, 16)) := by decide

/-- V49 (R253). -/
theorem test_add_a_b : (stepped (launched [0x80] { zero with a := 0x7F, b := 0x1 } [])).map
    (fun t => (t.regs.a, t.regs.f, t.t)) = some (0x80, 0x94, 4) := by decide

/-- V53 (R253). -/
theorem test_add_a_ixd : (stepped (launched [0xDD, 0x86, 0x03] { zero with a := 0x10, ix := 0x9000 } [(0x9003, 0x28)])).map
    (fun t => (t.regs.a, t.regs.f, t.memptr, t.t)) = some (0x38, 0x28, 0x9003, 19) := by decide

/-- V54 (R253). -/
theorem test_add_a_ixh : (stepped (launched [0xDD, 0x84] { zero with a := 0x1, ix := 0x7F00 } [])).map
    (fun t => (t.regs.a, t.regs.f, t.t)) = some (0x80, 0x94, 8) := by decide

/-- V56 (R254). -/
theorem test_adc_a_n : (stepped (launched [0xCE, 0x7F] { zero with f := 0x1 } [])).map
    (fun t => (t.regs.a, t.regs.f, t.t)) = some (0x80, 0x94, 7) := by decide

/-- V57 (R255). -/
theorem test_sub_b : (stepped (launched [0x90] { zero with b := 0x1 } [])).map
    (fun t => (t.regs.a, t.regs.f, t.t)) = some (0xFF, 0xBB, 4) := by decide

/-- V61 (R256). -/
theorem test_sbc_a_n : (stepped (launched [0xDE, 0x00] { zero with a := 0x80, f := 0x1 } [])).map
    (fun t => (t.regs.a, t.regs.f, t.t)) = some (0x7F, 0x3E, 7) := by decide

/-- V62 (R257). -/
theorem test_and_b : (stepped (launched [0xA0] { zero with a := 0xF0, b := 0xF } [])).map
    (fun t => (t.regs.a, t.regs.f, t.t)) = some (0x0, 0x54, 4) := by decide

/-- V65 (R258). -/
theorem test_or_n : (stepped (launched [0xF6, 0x81] zero [])).map
    (fun t => (t.regs.a, t.regs.f, t.t)) = some (0x81, 0x84, 7) := by decide

/-- V67 (R259). -/
theorem test_xor_n : (stepped (launched [0xEE, 0x01] zero [])).map
    (fun t => (t.regs.a, t.t)) = some (0x1, 7) := by decide

/-- V68 (R260). -/
theorem test_cp_b : (stepped (launched [0xB8] { zero with a := 0x10, b := 0x28 } [])).map
    (fun t => (t.regs.f, t.t)) = some (0xBB, 4) := by decide

/-- V73 (R261). -/
theorem test_inc_iyl : (stepped (launched [0xFD, 0x2C] { zero with iy := 0xFF } [])).map
    (fun t => (t.regs.f, t.regs.iy, t.t)) = some (0x50, 0x0, 8) := by decide

/-- V75 (R263). -/
theorem test_inc_ixd : (stepped (launched [0xDD, 0x34, 0xFE] { zero with ix := 0x9002 } [(0x9000, 0x41)])).map
    (fun t => (t.mem.get 0x9000, t.memptr, t.t)) = some (0x42, 0x9000, 23) := by decide

/-- V78 (R265). -/
theorem test_dec_hl_byte : (stepped (launched [0x35] { zero with h := 0x90 } [])).map
    (fun t => (t.regs.f, t.mem.get 0x9000, t.t)) = some (0xBA, 0xFF, 11) := by decide

/-- V80 (R267). -/
theorem test_daa_add : (stepped (launched [0x27] { zero with a := 0x9A } [])).map
    (fun t => (t.regs.a, t.regs.f, t.t)) = some (0x0, 0x55, 4) := by decide

/-- V82 (R267). -/
theorem test_daa_sub : (stepped (launched [0x27] { zero with a := 0xF, f := 0x2 } [])).map
    (fun t => (t.regs.a, t.regs.f, t.t)) = some (0x9, 0xE, 4) := by decide

/-- V86 (R268). -/
theorem test_cpl : (stepped (launched [0x2F] { zero with a := 0x5A } [])).map
    (fun t => (t.regs.a, t.regs.f, t.t)) = some (0xA5, 0x32, 4) := by decide

/-- V88 (R269). -/
theorem test_neg : (stepped (launched [0xED, 0x44] { zero with a := 0x80 } [])).map
    (fun t => (t.regs.f, t.t)) = some (0x87, 8) := by decide

/-- V91 (R270). -/
theorem test_ccf : (stepped (launched [0x3F] { zero with a := 0x28, f := 0x1 } [])).map
    (fun t => (t.regs.f, t.t)) = some (0x38, 4) := by decide

/-- V92 (R271). -/
theorem test_scf : (stepped (launched [0x37] { zero with f := 0xFE } [])).map
    (fun t => (t.regs.f, t.t)) = some (0xC5, 4) := by decide

/-- V93 (R272). -/
theorem test_add_hl_bc : (stepped (launched [0x09] { zero with f := 0xC4, c := 0x1, h := 0xF, l := 0xFF } [])).map
    (fun t => (t.regs.f, t.regs.h, t.regs.l, t.memptr, t.t)) = some (0xD4, 0x10, 0x0, 0x1000, 11) := by decide

/-- V95 (R273). -/
theorem test_adc_hl_bc : (stepped (launched [0xED, 0x4A] { zero with f := 0x1, h := 0x7F, l := 0xFF } [])).map
    (fun t => (t.regs.f, t.regs.h, t.regs.l, t.memptr, t.t)) = some (0x94, 0x80, 0x0, 0x8000, 15) := by decide

/-- V99 (R274). -/
theorem test_sbc_hl_de : (stepped (launched [0xED, 0x52] { zero with e := 0x1, h := 0x80 } [])).map
    (fun t => (t.regs.f, t.regs.h, t.regs.l, t.memptr, t.t)) = some (0x3E, 0x7F, 0xFF, 0x8001, 15) := by decide

/-- V100 (R275). -/
theorem test_add_ix_ix : (stepped (launched [0xDD, 0x29] { zero with ix := 0x4000 } [])).map
    (fun t => (t.regs.ix, t.memptr, t.t)) = some (0x8000, 0x4001, 15) := by decide

/-- V102 (R276). -/
theorem test_inc_bc : (stepped (launched [0x03] { zero with f := 0xFF, b := 0xFF, c := 0xFF } [])).map
    (fun t => (t.regs.b, t.regs.c, t.regs.f, t.t)) = some (0x0, 0x0, 0xFF, 6) := by decide

/-- V103 (R279). -/
theorem test_dec_ix : (stepped (launched [0xDD, 0x2B] zero [])).map
    (fun t => (t.regs.ix, t.t)) = some (0xFFFF, 10) := by decide

/-- V104 (R300). -/
theorem test_rlca : (stepped (launched [0x07] { zero with a := 0x81, f := 0xC4 } [])).map
    (fun t => (t.regs.a, t.regs.f, t.t)) = some (0x3, 0xC5, 4) := by decide

/-- V107 (R303). -/
theorem test_rra : (stepped (launched [0x1F] { zero with a := 0x1, f := 0x1 } [])).map
    (fun t => (t.regs.a, t.regs.f, t.t)) = some (0x80, 0x1, 4) := by decide

/-- V109 (R306). -/
theorem test_rl_hl : (stepped (launched [0xCB, 0x16] { zero with f := 0x1, h := 0x90 } [])).map
    (fun t => (t.regs.f, t.mem.get 0x9000, t.t)) = some (0x0, 0x1, 15) := by decide

/-- V113 (R310). -/
theorem test_sra_a : (stepped (launched [0xCB, 0x2F] { zero with a := 0x81 } [])).map
    (fun t => (t.regs.a, t.regs.f, t.t)) = some (0xC0, 0x85, 8) := by decide

/-- V114 (R311). -/
theorem test_sll_a : (stepped (launched [0xCB, 0x37] zero [])).map
    (fun t => (t.regs.a, t.t)) = some (0x1, 8) := by decide

/-- V117 (R305). -/
theorem test_rlc_ixd_b : (stepped (launched [0xDD, 0xCB, 0x01, 0x00] { zero with ix := 0x9000 } [(0x9001, 0x80)])).map
    (fun t => (t.regs.f, t.regs.b, t.mem.get 0x9001, t.memptr, t.t)) = some (0x1, 0x1, 0x1, 0x9001, 23) := by decide

/-- V118 (R313). -/
theorem test_rld : (stepped (launched [0xED, 0x6F] { zero with a := 0x12, h := 0x90 } [(0x9000, 0x34)])).map
    (fun t => (t.regs.a, t.mem.get 0x9000, t.memptr, t.t)) = some (0x13, 0x42, 0x9001, 18) := by decide

/-- V119 (R314). -/
theorem test_rrd : (stepped (launched [0xED, 0x67] { zero with a := 0x12, h := 0x90 } [(0x9000, 0x34)])).map
    (fun t => (t.regs.a, t.regs.f, t.mem.get 0x9000, t.memptr, t.t)) = some (0x14, 0x4, 0x23, 0x9001, 18) := by decide

/-- V121 (R315). -/
theorem test_bit_0_b : (stepped (launched [0xCB, 0x40] { zero with f := 0x1 } [])).map
    (fun t => (t.regs.f, t.t)) = some (0x55, 8) := by decide

/-- V123 (R316). -/
theorem test_bit_0_hl : (stepped ({ launched [0xCB, 0x46] { zero with h := 0x90 } [(0x9000, 0x01)] with memptr := 0x2800 })).map
    (fun t => (t.regs.f, t.t)) = some (0x38, 12) := by decide

/-- V124 (R317). -/
theorem test_bit_1_ixd : (stepped (launched [0xDD, 0xCB, 0x05, 0x4E] { zero with ix := 0x2000 } [])).map
    (fun t => (t.regs.f, t.memptr, t.t)) = some (0x74, 0x2005, 20) := by decide

/-- V127 (R320). -/
theorem test_set_0_iyd_b : (stepped (launched [0xFD, 0xCB, 0xFF, 0xC0] { zero with iy := 0x9001 } [])).map
    (fun t => (t.regs.b, t.mem.get 0x9000, t.memptr, t.t)) = some (0x1, 0x1, 0x9000, 23) := by decide

/-- V129 (R323). -/
theorem test_res_7_ixd : (stepped (launched [0xDD, 0xCB, 0x00, 0xBE] { zero with ix := 0x9000 } [(0x9000, 0xFF)])).map
    (fun t => (t.mem.get 0x9000, t.memptr, t.t)) = some (0x7F, 0x9000, 23) := by decide

/-- V132 (R341). -/
theorem test_jp_nz_not_taken : (stepped (launched [0xC2, 0x00, 0x90] { zero with f := 0x40 } [])).map
    (fun t => (t.regs.f, t.memptr, t.t)) = some (0x40, 0x9000, 10) := by decide

/-- V135 (R342). -/
theorem test_jr_back : (stepped (launched [0x18, 0x80] zero [])).map
    (fun t => (t.memptr, t.pc, t.t)) = some (0x7F82, 0x7F82, 12) := by decide

/-- V137 (R343). -/
theorem test_jr_c_not_taken : (stepped (launched [0x38, 0x02] zero [])).map
    (fun t => (t.t)) = some (7) := by decide

/-- V141 (R346). -/
theorem test_djnz : (stepped (launched [0x10, 0xFE] zero [])).map
    (fun t => (t.regs.b, t.memptr, t.pc, t.t)) = some (0xFF, 0x8000, 0x8000, 13) := by decide

/-- V142 (R347). -/
theorem test_call_wraps : (stepped (launched [0xCD, 0x00, 0x90] { zero with sp := 0x1 } [])).map
    (fun t => ((t.regs.sp, t.mem.get 0x0, t.mem.get 0xFFFF), (t.memptr, t.pc, t.t))) =
    some ((0xFFFF, 0x80, 0x3), (0x9000, 0x9000, 17)) := by decide

/-- V145 (R350). -/
theorem test_ret_z : (stepped (launched [0xC8] { zero with f := 0x40, sp := 0xFF00 } [(0xFF01, 0x90)])).map
    (fun t => (t.regs.sp, t.regs.f, t.memptr, t.pc, t.t)) = some (0xFF02, 0x40, 0x9000, 0x9000, 11) := by decide

/-- V146 (R351). -/
theorem test_reti : (stepped ({ launched [0xED, 0x4D] { zero with sp := 0xFF00 } [(0xFF01, 0x90)] with iff2 := true })).map
    (fun t => (t.regs.sp, t.memptr, t.iff1, t.pc, t.t)) = some (0xFF02, 0x9000, true, 0x9000, 14) := by decide

/-- V148 (R353). -/
theorem test_rst : (stepped (launched [0xD7] { zero with sp := 0xFF00 } [])).map
    (fun t => ((t.regs.sp, t.mem.get 0xFEFE, t.mem.get 0xFEFF), (t.memptr, t.pc, t.t))) =
    some ((0xFEFE, 0x1, 0x80), (0x10, 0x10, 11)) := by decide

/-- V153 (R357). -/
theorem test_ei : (stepped (launched [0xFB] zero [])).map
    (fun t => (t.iff1, t.intBlocked, t.t)) = some (true, .afterEi, 4) := by decide

/-- V155 (R358). -/
theorem test_im0_alias : (stepped ({ launched [0xED, 0x6E] zero [] with im := .im1 })).map
    (fun t => (t.im, t.t)) = some (.im0, 8) := by decide

/-- V160 (R362). -/
theorem test_ed_undefined : (stepped (launched [0xED, 0x00] zero [])).map
    (fun t => (t.t)) = some (8) := by decide

/-- V162 (R382). -/
theorem test_in_a_n : (stepped (answering 0xBF (launched [0xDB, 0xFE] { zero with a := 0x7F } []))).map
    (fun t => (t.regs.a, t.memptr, t.t)) = some (0xBF, 0x7FFF, 11) := by decide

/-- V163 (R383). -/
theorem test_in_r_c : (stepped (answering 0x80 (launched [0xED, 0x78] { zero with f := 0x1, b := 0x12, c := 0xFE } []))).map
    (fun t => (t.regs.a, t.regs.f, t.memptr, t.t)) = some (0x80, 0x81, 0x12FF, 12) := by decide

/-- V165 (R384). -/
theorem test_in_f_c : (stepped (answering 0x28 (launched [0xED, 0x70] { zero with b := 0x12, c := 0xFE } []))).map
    (fun t => (t.regs.f, t.memptr, t.t)) = some (0x2C, 0x12FF, 12) := by decide

/-- V168 (R385). -/
theorem test_ini : (stepped (answering 0x20 (launched [0xED, 0xA2] { zero with b := 0x1, c := 0xF0, h := 0x90 } []))).map
    (fun t => ((t.regs.f, t.regs.b, t.regs.l), (t.mem.get 0x9000, t.memptr, t.t))) =
    some ((0x51, 0x0, 0x1), (0x20, 0x1F1, 16)) := by decide

/-- V170 (R387). -/
theorem test_ind : (stepped (answering 0x80 (launched [0xED, 0xAA] { zero with b := 0x2, c := 0x10, h := 0x90 } []))).map
    (fun t => ((t.regs.f, t.regs.b, t.regs.h), (t.regs.l, t.mem.get 0x9000, t.memptr, t.t))) =
    some ((0x6, 0x1, 0x8F), (0xFF, 0x80, 0x20F, 16)) := by decide

/-- V171 (R389). -/
theorem test_out_n_a : (stepped (launched [0xD3, 0xFE] { zero with a := 0x7 } [])).map
    (fun t => (t.memptr, t.trace.portWrites, t.t)) = some (0x7FF, [⟨0x7FE, 0x7, 0⟩], 11) := by decide

/-- V173 (R391). -/
theorem test_out_c_0 : (stepped (launched [0xED, 0x71] { zero with b := 0x12, c := 0x34 } [])).map
    (fun t => (t.memptr, t.trace.portWrites, t.t)) = some (0x1235, [⟨0x1234, 0x0, 0⟩], 12) := by decide

/-- V174 (R392). -/
theorem test_outi : (stepped (launched [0xED, 0xA3] { zero with b := 0x1, c := 0x10, h := 0x90 } [(0x9000, 0x80)])).map
    (fun t => ((t.regs.f, t.regs.b, t.regs.l), (t.memptr, t.trace.portWrites, t.t))) =
    some ((0x42, 0x0, 0x1), (0x11, [⟨0x10, 0x80, 0⟩], 16)) := by decide

/-- V176 (R394). -/
theorem test_outd :
    (stepped (launched [0xED, 0xAB] { zero with b := 0x1, c := 0x10, h := 0x90, l := 0xFF } [(0x90FF, 0xFF)])).map
    (fun t => ((t.regs.f, t.regs.b, t.regs.l), (t.memptr, t.trace.portWrites, t.t))) =
    some ((0x57, 0x0, 0xFE), (0xF, [⟨0x10, 0xFF, 0⟩], 16)) := by decide

/-- LDIR with BC not 0 after the transfer goes back to itself in 21 T with MEMPTR one past its address (R240). -/
theorem test_ldir_repeats : (stepped (launched [0xED, 0xB0] { zero with c := 3, h := 0x90, d := 0xA0 } [(0x9000, 1)])).map
    (fun t => (t.pc, t.memptr, t.t, t.mem.get 0xA000)) = some (0x8000, 0x8001, 21, 1) := by decide

/-- IN B,(C): R383's pseudocode writes B before MEMPTR <- BC + 1, so MEMPTR is 0x00FE + 1 (log 37; V164 has 0x12FF). -/
theorem test_in_b_c : (stepped (answering 0x00 (launched [0xED, 0x40] { zero with b := 0x12, c := 0xFE } []))).map
    (fun t => (t.regs.b, t.regs.f, t.memptr, t.t)) = some (0x00, 0x44, 0x00FF, 12) := by decide

/-- HALT stays at its own address (V151). -/
theorem test_halt : (stepped (launched [0x76] zero [])).map (fun t => (t.pc, t.halted, t.t)) = some (0x8000, true, 4) := by
  decide

/-- An ignored prefix before another one (V158). -/
theorem test_ignored_prefix : (stepped (launched [0xDD, 0xDD, 0x21, 0x34, 0x12] zero [])).map
    (fun t => (t.pc, t.regs.ix, t.intBlocked, t.r, t.t)) = some (0x8001, 0, .afterPrefix, 1, 4) := by decide

/-- ROM_LIMIT: a store below it is ignored and a register copy is still made (R84, R304). -/
theorem test_rom_copy : (stepped { launched [0xDD, 0xCB, 0x00, 0x00] { zero with ix := 0x1000 } [(0x1000, 0x80)] with
      params := { Params.standard with romLimit := 0x4000 } }).map
    (fun t => (t.mem.get 0x1000, t.regs.b, t.regs.f)) = some (0x80, 0x01, 0x01) := by decide

/-- The record and its text (R140, R175). -/
theorem test_record_text : (stepped (launched [0x3E, 0xA5] zero [])).map
    (fun t => t.trace.record.map (fun rec => (rec.addr, rec.bytes, rec.cost))) = some (some (0x8000, [0x3E, 0xA5], 7)) := by
  decide

/-- The texts of three instructions of the edge loop, as R453 writes them (R140). -/
theorem test_text : [(Instr.ldRN .a 0x7F).text 0, (Instr.inAN 0xFE).text 0, (Instr.andN 0x20).text 0]
    = ["LD A,0x7F", "IN A,(0xFE)", "AND 0x20"] := by decide

/-- V177: an undefined ED opcode under ED_UNDEFINED = fault is E1. -/
theorem test_ed_fault : faulted { launched [0xED, 0x00] zero [] with params := { Params.standard with edUndefined := .fault } }
    = some (.undefinedOpcode 0x8000 0x00) := by decide

/-- A run that is over takes no further step (R55). -/
theorem test_run_over : stepped { launched [] zero [] with runStatus := .stopped } = none ∧
    faulted { launched [] zero [] with runStatus := .stopped } = none := by decide

/-- The Tracer's stop ends the run at the boundary after the step (R176). -/
theorem test_tracer_stop :
    (stepped { launched [] zero [] with env := { State.reset.env with tracer := .always } }).map
      (fun t => (t.runStatus, t.pc, t.trace.stopPending)) = some (.stopped, 0x8001, false) := by decide

/-- The accesses of PUSH BC: the fetch, then the high byte first (R12, R86, R87). -/
theorem test_hooks_push : stepAccesses (launched [0xC5] { zero with b := 0x12, c := 0x34 } [])
    = [.read 0x8000, .write 0xFFFF 0x12, .write 0xFFFE 0x34] := by decide

/-! ## Interrupts (R520, R521) -/

/-- Enabled, with the line asserted, in a mode. -/
def requested (im : IntMode) (bus i : Byte) (m : List (Nat × Byte)) : State :=
  { launched [] { zero with sp := 0xFF00 } m with
    im := im, i := i, iff1 := true, iff2 := true, r := 0x7F
    params := { Params.standard with intBusByte := bus }, env := { State.reset.env with int := .always } }

theorem test_int_mode_1 : (stepped (requested .im1 0xFF 0 [])).map
    (fun t => ((t.pc, t.regs.sp, t.mem.get 0xFEFE, t.mem.get 0xFEFF), (t.iff1, t.iff2, t.r, t.t)))
    = some ((0x0038, 0xFEFE, 0x00, 0x80), (false, false, 0x00, 13)) := by decide

theorem test_int_mode_2_odd_vector : (stepped (requested .im2 0x01 0x80 [(0x8001, 0x00), (0x8002, 0x90)])).map
    (fun t => (t.pc, t.t)) = some (0x9000, 19) := by decide

theorem test_int_mode_0 : (stepped (requested .im0 0xCF 0 [])).map (fun t => (t.pc, t.memptr, t.t))
    = some (0x0008, 0x0008, 13) := by decide

/-- V178. -/
theorem test_int_mode_0_bad_byte : faulted (requested .im0 0x00 0 []) = some (.im0BusByte 0x00 0x8000) := by decide

theorem test_nmi_out_of_halt : (stepped { launched [0x76] { zero with sp := 0x0001 } [] with
      halted := true, iff2 := true, t := 4, env := { State.reset.env with nmi := .always } }).map
    (fun t => ((t.pc, t.regs.sp, t.mem.get 0x0000, t.mem.get 0xFFFF), (t.iff2, t.halted, t.t)))
    = some ((0x0066, 0xFFFF, 0x80, 0x01), (true, false, 15)) := by decide

/-- INT_REQUEST as a predicate on the state (R8): asserted while PC = 0x8000 and T is below 32. -/
theorem test_int_predicate :
    let line : LineSource := .predicate (.ifLess (.bitXor (.input (.word .pc)) (.const 0x8000)) (.const 1)
      (.ifLess (.input .t) (.const 32) (.const 1) (.const 0)) (.const 0))
    let s : State := { requested .im1 0xFF 0 [] with env := { State.reset.env with int := line } }
    [s.intRequest, ({ s with t := 32 } : State).intRequest, ({ s with pc := 0x8001 } : State).intRequest]
      = [true, false, false] := by decide

/-- Directly after EI the request waits (R521): the step is the NOP. -/
theorem test_after_ei : (stepped { requested .im1 0xFF 0 [] with intBlocked := .afterEi }).map (fun t => (t.pc, t.t))
    = some (0x8001, 4) := by decide

/-! ## The tape and the fast load -/

/-- A TZX container after its header. -/
def tzx (body : List Byte) : List Byte := tzxSignature ++ [1, 20] ++ body

/-- The blocks of a container of records that decode. -/
def blocksOf (bytes : List Byte) : List Block :=
  match decodeTzx Params.standard.tzxUnsupported bytes with
  | .ok l => l
  | .error _ => []

/-- The tape of T9: pulses 1000 and 2000, then a pause of 1 ms. -/
def tapeT9 : Tape := { blocks := blocksOf (tzx [0x13, 2, 0xE8, 0x03, 0xD0, 0x07, 0x20, 1, 0]), startT := 0 }

/-- T1. -/
theorem test_tap_three_records : decodeTap [2, 0, 0, 1, 1, 0, 0xFF, 0, 0]
    = .ok [stdBlock 1000 [0, 1] .tap, stdBlock 1000 [0xFF] .tap, stdBlock 1000 [] .tap] := by decide

/-- T3. -/
theorem test_tap_truncated : decodeTap [1] = .error (.truncated 0) := by decide

/-- T9. -/
theorem test_tzx_pulses : tapeT9.blocks = [.pulses [(1, 1000), (1, 2000)] (.tzx 0x13), .pause 1 (.tzx 0x20)] := by decide

/-- T10. -/
theorem test_tzx_unsupported : decodeTzx Params.standard.tzxUnsupported (tzx [0x16, 0, 0, 0, 0])
    = .error (.unsupportedBlock 0x16 10) := by decide

/-- T11. -/
theorem test_tzx_truncated : decodeTzx [] (tzx [0x10, 0xE8, 0x03]) = .error (.truncated 10) := by decide

/-- R427: an id in no table. -/
theorem test_tzx_unknown : decodeTzx [] (tzx [0x4B]) = .error (.unknownBlockId 0x4B 10) := by decide

/-- R412, with TZX_UNSUPPORTED another set than the default (R8): the message names the block type of table R407. -/
theorem test_tzx_unsupported_name : [(TapeError.unsupportedBlock 0x12 10).message, (TapeError.unsupportedBlock 0x20 10).message,
    (TapeError.unsupportedBlock 0x4B 10).message]
    = ["pure tone not supported", "pause / stop the tape not supported", "block type 0x4B not supported"] := by decide

/-- T12. -/
theorem test_tzx_signature : decodeTzx [] [0x5A, 0x58, 0x54, 0x61, 0x70, 0x65, 0x21, 0x1A, 0x01] = .error .badSignature := by
  decide

/-- L1. -/
theorem test_edges : (tapeT9.edges 3500, tapeT9.endTime 3500) = ([0, 1000, 3000], 6500) := by decide

/-- L1. -/
theorem test_ear : ([0, 999, 1000, 2999, 3000].map (tapeT9.ear 3500)) = [true, true, false, false, true] := by decide

/-- L2: two bits of a byte, and no hold after them. -/
theorem test_used_bits :
    ({ blocks := blocksOf (tzx [0x14, 0x57, 3, 0xAE, 6, 2, 0, 0, 1, 0, 0, 0xC0]), startT := 0 } : Tape).edges 3500
    = [0, 1710, 3420, 5130, 6840] := by decide

/-- The ROM's edge loop at 0x05ED with T9's tape (A1, A2, R465). -/
def atEdgeLoop (b c : Byte) (t : Nat) : State :=
  { launched [] { zero with b := b, c := c } (cells 0x05ED romSignature) with pc := 0x05ED, t := t, tape := some tapeT9 }

/-- A1. -/
theorem test_accelerator_end_of_tape : faulted (atEdgeLoop 0x00 0x20 5000) = some (.unexpectedEndOfTape 0x05ED 5000) := by
  decide

/-- A2. -/
theorem test_accelerator_step : (stepped (atEdgeLoop 0x00 0x00 2900)).map
    (fun t => ((t.regs.b, t.t, t.r, t.regs.a), (t.regs.f, t.memptr, t.pc)))
    = some ((0x02, 3018, 0x12, 0x00), (0x54, 0x05ED, 0x05ED)) := by decide

/-- F1's block as pure data, one bit long a pulse: only what the trap reads of it matters. -/
def tapeF1 : Tape := { blocks := blocksOf (tzx [0x14, 1, 0, 1, 0, 8, 0, 0, 4, 0, 0, 0xFF, 4, 5, 0xFE]), startT := 52 }

/-- The call of LD-BYTES of F1, at the trap. -/
def atTrap (a : Byte) : State :=
  { launched [] { zero with a := a, f := 1, e := 2, ix := 0x8100, sp := 0xFEFE } [(0xFEFE, 0x0D), (0xFEFF, 0x80)] with
    pc := 0x0556, t := 52, tape := some tapeF1 }

/-- F1: the bytes, the registers and the return. -/
theorem test_trap : (stepped (atTrap 0xFF)).map
    (fun t => ((t.mem.get 0x8101, t.regs.ix, t.regs.h, t.regs.l), (t.regs.a, t.regs.f, t.pc, t.iff1)))
    = some ((5, 0x8102, 0x00, 0xFE), (0x00, 0x93, 0x800D, true)) := by decide

/-- F7: no block is left. -/
theorem test_trap_no_block : faulted (atTrap 0x00) = some (.unexpectedEndOfTape 0x0556 52) := by decide

/-- R502, R516: an E2 at a boundary where the trap's condition holds too adds no warning of the trap, which is not the step. -/
theorem test_no_trap_warning :
    let s : State := { atTrap 0x00 with
      im := .im0, iff1 := true, params := { Params.standard with intBusByte := 0x00 }
      env := { State.reset.env with int := .always } }
    (run 1 s).runStatus = .faulted (.im0BusByte 0x00 0x0556) ∧ (run 1 s).warnings = [] ∧
      (run 1 { s with iff1 := false }).warnings = [.flagMismatch 0 0xFF 0x00] := by decide

/-- R460: an iteration may contain EI and DI (EI; DI; JR to the EI: 4 + 4 + 12 T). -/
theorem test_iteration_ei_di :
    (iteration { romEntry with signature := [.literal 0xFB, .literal 0xF3, .literal 0x18, .wildcard] }
      (launched [0xFB, 0xF3, 0x18, 0xFC] zero [])).map (fun t => (t.pc, t.t, t.iff1)) = some (0x8000, 20, false) := by decide

/-- PORT_READ as a function of (port, T) (R8): the high byte of the port while T is below 100, then 0. -/
theorem test_port_read_function :
    let s : State := { atEdgeLoop 0 0 0 with params := { Params.standard with
      portRead := .function (.ifLess (.input .t) (.const 100) (.div (.input .port) (.const 256)) (.const 0)) } }
    [s.portByte 0x7FFE, ({ s with t := 100 } : State).portByte 0x7FFE] = [0x7F, 0x00] := by decide

/-- E8. -/
theorem test_unrecognised_accelerator :
    fastLoad .tap [] 0 { State.reset with params := { Params.standard with selection := .names ["speedlock"] } }
    = .error (.unrecognisedAccelerator "speedlock")
        { State.reset with params := { Params.standard with selection := .names ["speedlock"] } } := by decide

/-- The default registry is valid (R450, R453). -/
theorem test_registry_valid : registryValid Params.standard.registry = true := by decide

/-! ## Witnesses: states and operands that meet the hypotheses of each statement -/

/-- A boundary with nothing requested: the hypotheses of most statements. -/
def plain : State := launched [0x3E, 0xA5] { zero with sp := 0x0001, a := 0x12 } []

theorem plain_noAcceptance : NoAcceptance plain := ⟨.inl (by decide), .inl (by decide)⟩

/-- DecodeOfEncodeIsTheInstruction, RefreshCountsM1Fetches: well-formed instructions at the edge of each check. -/
theorem witness_wellFormed : [Instr.jrCc .c 0xFF, .ldRxRy .iy .xl .b, .retn 7, .im0 5, .im1 6, .im2 7, .nopEd1 7, .nopEd2 4 4,
    .nopEd2 3 3, .ignoredPrefix .ix 0xDD].all Instr.wellFormed = true := by decide

/-- RefreshCountsM1Fetches: a prefix of each kind. -/
theorem witness_m1 : [Instr.nop, .rlcR .b, .ldAI, .popIx .ix, .bitX .iy 0 7 0, .ignoredPrefix .ix 0xDD].map Instr.m1
    = [1, 2, 2, 2, 2, 1] := by decide

/-- EveryByteSequenceIsOneInstruction: a well-formed instruction whose encoding begins the bytes, for the longest window and for
an ignored prefix before an indexable byte's neighbour. -/
theorem witness_encoding : [(Instr.ldXN .ix 0xFE 0x77, ([0xDD, 0x36, 0xFE, 0x77] : List Byte)), (.ignoredPrefix .iy 0xDD,
    [0xFD, 0xDD, 0x21, 0x00])].all (fun p => p.1.wellFormed && encode p.1 == p.2.take p.1.window) = true := by decide

/-- RegisterViewsShareOneStorage: the other index register. -/
theorem witness_other_index : Idx.iy ≠ Idx.ix ∧ Idx.ix ≠ Idx.iy := by decide

/-- DisplacementsAreSigned: PC past a JR, at the ends of the range of e (R131). -/
theorem witness_relTarget : ({ plain with pc := 0x8000 + 2 } : State).relTarget 0x80 = 0x8000 - 126 ∧
    ({ plain with pc := 0x8000 + 2 } : State).relTarget 0x7F = 0x8000 + 129 := by decide

/-- DisplacementsAreSigned: the effective address at the ends of the range of d, wrapping. -/
theorem witness_ea : ({ plain with regs := { zero with ix := 0x0000 } } : State).ea .ix 0x80 = 0xFF80 ∧
    ({ plain with regs := { zero with ix := 0xFFFF } } : State).ea .ix 0x7F = 0x007E := by decide

/-- AStoreWritesOneByteAboveRomLimit, StoresToMemory, ExchangesSwap, CallsPushTheReturnAddress and the other statements about
stores: a canonical memory. -/
theorem witness_memWf : plain.mem.wf = true := by decide

/-- AStoreWritesOneByteAboveRomLimit and NoStepChangesRom: the last address below ROM_LIMIT. -/
theorem witness_below_romLimit :
    (0x3FFF : Word).toNat < ({ plain with params := { Params.standard with romLimit := 0x4000 } } : State).params.romLimit ∧
    (stepped { plain with params := { Params.standard with romLimit := 0x4000 } }).isSome = true := by decide

/-- MemoryChangesOnlyByReportedStores: a store that completes, and an address it does not store to. -/
theorem witness_writesTo : (∃ t, exec (.ldMN 0x5C) plain = .next t) ∧
    writesTo 0x0001 (dataAccesses (.ldMN 0x5C) plain) = false ∧ writesTo 0x0000 (dataAccesses (.ldMN 0x5C) plain) = true :=
  ⟨⟨_, rfl⟩, by decide, by decide⟩

/-- PushAndPopMoveAWord, RetnComesBackFromNmi: a writable stack, with SP wrapping; equal flip-flops. -/
theorem witness_writable_stack : plain.iff1 = plain.iff2 ∧ plain.params.romLimit ≤ (plain.regs.sp - 1).toNat ∧
    plain.params.romLimit ≤ (plain.regs.sp - 2).toNat := by decide

/-- BlockTransfersMoveOneByteAStep: both ends of the repeat, BC = 1 and BC = 0. -/
theorem witness_block_ends : (stepped (launched [0xED, 0xB0] { zero with c := 1, h := 0x90, d := 0xA0 } [])).map
      (fun t => (t.pc, t.t)) = some (0x8002, 16) ∧
    (stepped (launched [0xED, 0xB0] { zero with h := 0x90, d := 0xA0 } [])).map (fun t => (t.pc, t.t)) = some (0x8000, 21) := by
  decide

/-- CallsPushTheReturnAddress: a condition that holds and one that does not. -/
theorem witness_condition : condHolds .z 0x40 = true ∧ condHolds .z 0x00 = false := by decide

/-- CpuControlInstructions: the two values of ED_UNDEFINED, and an encoding of each undefined row. -/
theorem witness_ed_rows : plain.params.edUndefined = .nop ∧
    ({ plain with params := { Params.standard with edUndefined := .fault } } : State).params.edUndefined = .fault ∧
    [Instr.nopEd1 6, .nopEd0 63, .nopEd3 0, .nopEd2 7 7].map encode
      = [[0xED, 0x77], [0xED, 0x3F], [0xED, 0xC0], [0xED, 0xBF]] ∧
    [Instr.nopEd1 6, .nopEd0 63, .nopEd3 0, .nopEd2 7 7].all Instr.wellFormed = true := by decide

/-- DaaCorrectsToDecimal: the largest operands with a carry in. -/
theorem witness_daa : (99 : Nat) < 100 ∧ daa (alu .adc 0x99 0x99 0x01).1 (alu .adc 0x99 0x99 0x01).2 = (0x99, 0x8D) := by decide

/-- AStepRunsTheDecodedInstruction. -/
theorem witness_step : plain.runStatus = .running ∧ plain.tape = none ∧ plain.halted = false ∧ NoAcceptance plain ∧
    decode [plain.read plain.pc, plain.read (plain.pc + 1), plain.read (plain.pc + 2), plain.read (plain.pc + 3)]
      = .ok (.ldRN .a 0xA5) :=
  ⟨by decide, by decide, by decide, plain_noAcceptance, by decide⟩

/-- AStepRunsTheDecodedInstruction: inside the tape-loading environment, with fast-load steps enabled and none to take, and with
FAST_LOAD = false and no accelerator (R478). -/
theorem witness_step_tape :
    let s : State := { plain with tape := some tapeT9, params := { Params.standard with loadStop := .start 0x9000 } }
    let full : State := { s with params := { s.params with fastLoad := false, selection := .none } }
    s.tape ≠ none ∧ loadStopHolds s = false ∧ fastLoadStep s.nmiRequest s.nextBoundary = none ∧
      loadStopHolds full = false ∧ full.params.fastLoad = false ∧ full.params.selection = .none ∧
      (stepped full).map (fun t => (t.regs.a, t.t)) = some (0xA5, 7) := by decide

/-- A halted core. -/
def idle : State := { launched [0x76] zero [] with halted := true }

/-- HaltedIdleStepOnlyCounts. -/
theorem witness_halted : idle.runStatus = .running ∧ idle.tape = none ∧ idle.halted = true ∧ NoAcceptance idle :=
  ⟨by decide, by decide, by decide, ⟨.inl (by decide), .inl (by decide)⟩⟩

/-- HaltedIdleStepOnlyCounts: a Tracer that goes on and one that stops (R176). -/
theorem witness_halted_stop : (stepped idle).map (fun t => t.runStatus) = some .running ∧
    (stepped { idle with env := { State.reset.env with tracer := .always } }).map (fun t => t.runStatus) = some .stopped := by
  decide

/-- HaltedIdleStepOnlyCounts: the same inside the tape-loading environment, where the Tracer's calls answer continue (log 26). -/
theorem witness_halted_tape :
    let s : State := { idle with tape := some tapeT9, env := { State.reset.env with tracer := .always }, params := {
      Params.standard with loadStop := .start 0x9000 } }
    loadStopHolds s = false ∧ (stepped s).map (fun t => (t.runStatus, t.t)) = some (.running, 4) := by decide

/-- MaskableInterruptEntry: each mode, and both kinds of bus byte in mode 0. -/
theorem witness_int : [requested .im0 0xCF 0 [], requested .im0 0x00 0 [], requested .im1 0x00 0 [],
      requested .im2 0xFF 0xFF []].all (fun s =>
        s.mem.wf && s.runStatus == .running && !loadStopHolds s && !s.nmiRequest && s.intRequest && s.iff1
          && s.intBlocked == .none) = true ∧
    (0xCF : Byte) &&& 0xC7 = 0xC7 ∧ (0x00 : Byte) &&& 0xC7 ≠ 0xC7 := by decide

/-- NonMaskableInterruptEntry: directly after EI, with the maskable line asserted too. -/
theorem witness_nmi :
    let s : State := { requested .im1 0xFF 0 [] with
      intBlocked := .afterEi, env := { State.reset.env with nmi := .always, int := .always } }
    s.mem.wf = true ∧ s.runStatus = .running ∧ loadStopHolds s = false ∧ s.nmiRequest = true ∧ s.intBlocked ≠ .afterPrefix := by
  decide

/-- EiAndPrefixesDelayInterrupts: an EI, an ignored prefix and another instruction, each of which completes. -/
theorem witness_ei : (launched [0xFB] zero []).fetched = .ei ∧ (launched [0xDD, 0x00] zero []).fetched = .ignoredPrefix .ix 0x00 ∧
    plain.fetched = .ldRN .a 0xA5 ∧
    [launched [0xFB] zero [], launched [0xDD, 0x00] zero [], plain].all (fun s => (stepped s).isSome) = true := by decide

/-- EveryStepKeepsTheInvariant: the idle core, directly after EI, and reset meet it. -/
theorem witness_inv_idle : Inv idle := ⟨by decide, by decide, (fun _ => by decide), (fun h => by cases h)⟩

theorem witness_inv_afterEi : Inv { requested .im1 0xFF 0 [] with intBlocked := .afterEi } :=
  ⟨by decide, by decide, (fun h => by cases h), (fun _ => by decide)⟩

theorem witness_inv_steps : (stepped idle).isSome = true ∧
    (stepped { requested .im1 0xFF 0 [] with intBlocked := .afterEi }).isSome = true := by decide

/-- EachControlRegisterHasItsWriters: each writer named there, and one that writes none. -/
theorem witness_writers : [Instr.ldIA, .ldRA, .im1 2, .di, .reti, .exx, .halt, .ei, .nop, .outC0, .ini].all (fun i =>
    match exec i plain with
    | .next _ => true
    | .fault _ => false
    | .refused _ => false) = true := by decide

/-- RefreshTopBitChangesOnlyByLoad, TimeOnlyAdvances: no tape, a step that completes, not LD R,A; the shortest and the longest
step. -/
theorem witness_times : plain.tape = none ∧ plain.fetched ≠ .ldRA ∧
    (stepped (launched [0x00] zero [])).map (fun t => t.t) = some 4 ∧
    (stepped (launched [0xDD, 0xE3] zero [])).map (fun t => t.t) = some 23 := by decide

/-- FaultsHaveTheThreeCauses: E1, E2 and E7 arise (V177, V178, A1), and a refusal. -/
theorem witness_faults :
    (faulted { launched [0xED, 0x00] zero [] with params := { Params.standard with edUndefined := .fault } }).isSome = true ∧
    (faulted (requested .im0 0x00 0 [])).isSome = true ∧ (faulted (atEdgeLoop 0x00 0x20 5000)).isSome = true ∧
    ({ plain with runStatus := .stopped } : State).runStatus ≠ .running := by decide

/-- NoFaultWithoutACause. -/
theorem witness_faultFree : plain.runStatus = .running ∧ FaultFree plain := ⟨by decide, ⟨by decide, by decide, by decide⟩⟩

/-- TapeLevelAndItsPort: an even and an odd port, with EAR 1 and 0 (L1). -/
theorem witness_port : (atEdgeLoop 0 0 0).tape = some tapeT9 ∧ (atEdgeLoop 0 0 0).params.portRead = .ula ∧
    (atEdgeLoop 0 0 0).portByte 0x00FE = 0xFF ∧ (atEdgeLoop 0 0 1000).portByte 0x00FE = 0xBF ∧
    (atEdgeLoop 0 0 1000).portByte 0x00FF = 0xFF := by decide

/-- TapeContainersDecodeInOrder: records of no bytes and of some, a record of each shape of length, and an input for each error
after them. -/
theorem witness_containers : ([[], [0xFF, 4]] : List (List Byte)).all (fun r => decide (r.length < 65536)) = true ∧
    ([0x05] : List Byte).length = 1 ∧ ([0xFF] : List Byte).length < (0x02 : Byte).toNat + 256 * (0x00 : Byte).toNat ∧
    ((tzx []).take 9).length < 10 ∧ Params.standard.tzxUnsupported.contains 0x15 = true ∧
    Params.standard.tzxUnsupported.contains 0x4B = false ∧ tzxRow 0x4B = none ∧
    leField ([] : List Byte) 0 2 = none ∧ ([1, 0, 0xAA] : List Byte).length < 2 + 2 * 1 := by decide

theorem witness_records : ∀ r ∈ ([[0x22], [0x20, 1, 0], [0x30, 2, 0x41, 0x42], [0x26, 1, 0, 0, 0]] : List (List Byte)),
    IsTzxRecord Params.standard.tzxUnsupported r := by
  intro r hr
  simp only [List.mem_cons, List.not_mem_nil, or_false] at hr
  obtain rfl | rfl | rfl | rfl := hr
  · exact ⟨_, _, _, 0, rfl, by decide, rfl, by decide, by decide⟩
  · exact ⟨_, _, _, 0, rfl, by decide, rfl, by decide, by decide⟩
  · exact ⟨_, _, _, 2, rfl, by decide, rfl, by decide, by decide⟩
  · exact ⟨_, _, _, 1, rfl, by decide, rfl, by decide, by decide⟩

/-- TrapLoadsTheChosenBlock: a trap with a block to load and one without. -/
theorem witness_trap : [atTrap 0xFF, atTrap 0x00].all (fun s =>
      s.mem.wf && s.runStatus == .running && !loadStopHolds s && trapTaken s && s.tape == some tapeF1) = true ∧
    (trapChoice tapeF1 (atTrap 0xFF)).2.isSome = true ∧ (trapChoice tapeF1 (atTrap 0x00)).2.isSome = false := by decide

theorem witness_trap_noAcceptance : NoAcceptance (atTrap 0xFF) ∧ NoAcceptance (atTrap 0x00) :=
  ⟨⟨.inl (by decide), .inl (by decide)⟩, ⟨.inl (by decide), .inl (by decide)⟩⟩

/-- AcceleratorStepEqualsItsInstructions: a step of two iterations (A2). -/
theorem witness_accelerator : (match acceleratorStep tapeT9 false (atEdgeLoop 0x00 0x00 2900) with
    | some (.next t) => t.regs.b
    | some (.fault _) => 0xFF
    | some (.refused _) => 0xFF
    | none => 0xFF) = 0x02 := by decide

theorem witness_active : IsActive (atEdgeLoop 0x00 0x00 2900) romEntry :=
  ⟨[], [], rfl, (fun _ h => by cases h), by decide⟩

/-- AcceleratorStepEqualsItsInstructions: the boundary of A2 meets the hypotheses, two iterations loop and the third does not; and
from T = 3000 - 16 on, the last edge is too near (R462). -/
theorem witness_accelerator_loop :
    let s := atEdgeLoop 0x00 0x00 2900
    let late := atEdgeLoop 0x00 0x20 2984
    (s.halted = false ∧ s.iff1 = false ∧ s.nmiRequest = false ∧ loadStopHolds s = false ∧ trapTaken s = false) ∧
    (iteration romEntry s).isSome = true ∧ s.t + romEntry.inTime < tapeT9.lastEdge s.params.tstatesPerMs ∧
    (iterations romEntry 2 s).map (fun u => (u.t, (iteration romEntry u).isSome)) = some (3018, false) ∧
    2 ≤ loopFuel (tapeT9.lastEdge s.params.tstatesPerMs) s.t ∧
    (iteration romEntry late).isSome = true ∧ tapeT9.lastEdge late.params.tstatesPerMs ≤ late.t + romEntry.inTime := by decide

theorem witness_accelerator_noAcceptance : NoAcceptance (atEdgeLoop 0x00 0x00 2900) := ⟨.inl (by decide), .inl (by decide)⟩

/-- An entry with no end: JR to itself. -/
def endless : Accelerator := { romEntry with signature := [.literal 0x18, .literal 0xFE] }

/-- PC is at a JR to itself, with no halt. -/
structure AtEndless (s : State) : Prop where
  halted : s.halted = false
  op : s.read s.pc = 0x18
  offset : s.read (s.pc + 1) = 0xFE

theorem endless_loops {s : State} (h : AtEndless s) : ∃ u, iteration endless s = some u ∧ AtEndless u := by
  have hf : s.fetched = .jr 0xFE := by
    unfold State.fetched; rw [h.op, h.offset]; rfl
  obtain ⟨u, hu⟩ : ∃ u, instructionStep s = .next u := by
    simp only [instructionStep, hf]; exact ⟨_, rfl⟩
  have hpc : u.pc = s.pc ∧ u.mem = s.mem ∧ u.halted = s.halted := by
    obtain ⟨v, hv, rfl⟩ := instructionStep_next hu
    rw [hf] at hv
    cases hv
    have hp : s.pc + 2 + 0xFFFE = s.pc := by bv_omega
    exact ⟨by simp only [State.recorded_pc]; exact hp, by simp [State.jump, State.afterFetch],
      by simp [State.jump, State.afterFetch]⟩
  obtain ⟨hp, hm, hh⟩ := hpc
  exact ⟨u, iteration_of_step h.halted hu hp, hh.trans h.halted, by rw [State.read_congr hm, hp, h.op],
    by rw [State.read_congr hm, hp, h.offset]⟩

theorem endless_iterations {s u : State} {k : Nat} (h : AtEndless s) (hk : iterations endless k s = some u) :
    iteration endless u ≠ none := by
  induction k generalizing s with
  | zero =>
    cases hk
    obtain ⟨v, hv, -⟩ := endless_loops h
    simp [hv]
  | succ k ih =>
    obtain ⟨v, hv, h2⟩ := endless_loops h
    simp only [iterations, hv] at hk
    exact ih h2 hk

/-- AcceleratorStepEqualsItsInstructions: a loop that never ends, with an edge still to come (log 15). -/
theorem witness_endless :
    let s : State := { launched [0x18, 0xFE] zero [] with
      tape := some tapeT9, params := { Params.standard with registry := { entries := [endless], otherNames := [] } } }
    s.halted = false ∧ s.iff1 = false ∧ IsActive s endless ∧ (iteration endless s).isSome = true ∧
      s.t + endless.inTime < tapeT9.lastEdge s.params.tstatesPerMs ∧
      ∀ k u, iterations endless k s = some u → iteration endless u ≠ none :=
  ⟨by decide, by decide, ⟨[], [], rfl, (fun _ h => by cases h), by decide⟩, by decide, by decide,
    fun _ _ => endless_iterations ⟨by decide, by decide, by decide⟩⟩

/-- RomLoopIterationInClosedForm: the hypotheses, and each of the clauses: B + 1 not 0 with EAR as C[5] says and not, and
B + 1 = 0 with a return address outside the loop. -/
theorem witness_romLoop :
    let s := atEdgeLoop 0xFE 0x00 1000
    s.tape = some tapeT9 ∧ s.params.portRead = .ula ∧ s.iff1 = false ∧ s.halted = false ∧ s.trace.stopPending = false ∧
      matchesAt s romEntry.signature s.pc = true ∧ s.regs.b + 1 ≠ 0 ∧
      tapeT9.ear s.params.tstatesPerMs (s.t + romEntry.inTime) = s.regs.c.getLsbD 5 ∧
      tapeT9.ear s.params.tstatesPerMs (s.t + romEntry.inTime) ≠ (atEdgeLoop 0xFE 0x20 1000).regs.c.getLsbD 5 ∧
      (atEdgeLoop 0xFF 0x00 1000).regs.b + 1 = 0 ∧
      romEntry.signature.length ≤ ((atEdgeLoop 0xFF 0x00 1000).popped - (atEdgeLoop 0xFF 0x00 1000).pc).toNat := by decide

/-- RomLoopIterationInClosedForm: what validity says of one iteration of A2's loop (R453, R455). -/
theorem witness_romValid : (iterationM1 romEntry (atEdgeLoop 0x00 0x00 2900), iterationReads romEntry (atEdgeLoop 0x00 0x00 2900))
    = (9, [2916]) := by decide

/-- RomLoopIterationInClosedForm: PORT_READ at rule R425, and a loop entry of the `rom` entry. -/
theorem witness_romEntry : Params.standard.portRead = .ula ∧ atLoopEntry Params.standard romEntry (atEdgeLoop 0xFF 0x00 1000) :=
  ⟨rfl, rfl, by decide, by decide, by decide, by decide⟩

/-- LoadsStopAsSpecified: the boundary of each policy, and the two errors. -/
theorem witness_load_stop :
    let s := { atTrap 0xFF with pc := 0x4000, t := tapeF1.lastDataEnd 3500 }
    s.runStatus = .running ∧ s.tape = some tapeF1 ∧ s.params.loadStop = .auto ∧ s.params.tstatesPerMs = 3500 ∧
      tapeF1.lastDataEnd 3500 ≤ s.t ∧ 0x4000 ≤ s.pc.toNat ∧ Params.standard.selection = .auto ∧
      (["rom", "speedlock"].find? (fun n => (resolve Params.standard.registry n).isNone)) = some "speedlock" ∧
      decodeTape Params.standard.tzxUnsupported .tap [1] = .error (.truncated 0) := by decide

/-- LaunchBuildsTheStartState: 65536 bytes and another length, registers given once, twice and through a pair and a half, and
registers not given. -/
theorem witness_launch : (List.replicate 65536 (0 : Byte)).length = 65536 ∧ ([] : List Byte).length ≠ 65536 ∧
    (let g : LaunchRegs := { LaunchRegs.none with bytes := [(.a, 1), (.a, 2), (.ixh, 3)], words := [(.ix, 0x1234), (.bc, 5)] }
     g.bytes = [(.a, 1)] ++ (.a, 2) :: [(.ixh, 3)] ∧ (∀ p ∈ [(ByteId.ixh, (3 : Byte))], p.1 ≠ .a) ∧
     (∀ w ∈ g.words, ByteId.a ∉ w.1.halves) ∧ g.words = [] ++ (.ix, 0x1234) :: [(.bc, 5)] ∧
     (∀ p ∈ [(WordId.bc, (5 : Word))], p.1 ≠ .ix) ∧ (WordId.ix ≠ .pc) ∧ (∀ p ∈ g.bytes, p.1 ≠ .f) ∧
     (∀ w ∈ g.words, ByteId.f ∉ w.1.halves) ∧ (∀ w ∈ g.words, w.1 ≠ .sp) ∧ (putRegs g State.reset).regs.ix = 0x1234) :=
  ⟨List.length_replicate, by decide, by decide⟩

end Sys2Proof.Tests
end

/-! SUPPORT. Reading a register through any view after writing one through any view (R31, R33). -/

namespace Sys2Proof.Machine.Regs

/-! ## The 8-bit registers -/

theorem get8_set8 (r : Regs) (n m : Reg8) (v : Byte) : (r.set8 n v).get8 m = if m = n then v else r.get8 m := by
  cases n <;> cases m <;> rfl

@[simp] theorem set8_f (r : Regs) (n : Reg8) (v : Byte) : (r.set8 n v).f = r.f := by cases n <;> rfl

@[simp] theorem set8_sp (r : Regs) (n : Reg8) (v : Byte) : (r.set8 n v).sp = r.sp := by cases n <;> rfl

@[simp] theorem getIdx_set8 (r : Regs) (n : Reg8) (v : Byte) (y : Idx) : (r.set8 n v).getIdx y = r.getIdx y := by
  cases n <;> cases y <;> rfl

/-! ## The pairs -/

@[simp] theorem setAf_af (r : Regs) (v : Word) : (r.setAf v).af = v := wordOf_hiOf_loOf v
@[simp] theorem setBc_bc (r : Regs) (v : Word) : (r.setBc v).bc = v := wordOf_hiOf_loOf v
@[simp] theorem setDe_de (r : Regs) (v : Word) : (r.setDe v).de = v := wordOf_hiOf_loOf v
@[simp] theorem setHl_hl (r : Regs) (v : Word) : (r.setHl v).hl = v := wordOf_hiOf_loOf v

theorem getPair_setPair (r : Regs) (p q : Pair) (v : Word) :
    (r.setPair p v).getPair q = if q = p then v else r.getPair q := by
  cases p with
  | bc => cases q with | bc => exact setBc_bc r v | _ => rfl
  | de => cases q with | de => exact setDe_de r v | _ => rfl
  | hl => cases q with | hl => exact setHl_hl r v | _ => rfl
  | sp => cases q <;> rfl

@[simp] theorem setPair_af (r : Regs) (p : Pair) (v : Word) : (r.setPair p v).af = r.af := by cases p <;> rfl

@[simp] theorem getIdx_setPair (r : Regs) (p : Pair) (v : Word) (y : Idx) : (r.setPair p v).getIdx y = r.getIdx y := by
  cases p <;> cases y <;> rfl

theorem getPairQ_setPairQ (r : Regs) (p q : PairQ) (v : Word) :
    (r.setPairQ p v).getPairQ q = if q = p then v else r.getPairQ q := by
  cases p with
  | bc => cases q with | bc => exact setBc_bc r v | _ => rfl
  | de => cases q with | de => exact setDe_de r v | _ => rfl
  | hl => cases q with | hl => exact setHl_hl r v | _ => rfl
  | af => cases q with | af => exact setAf_af r v | _ => rfl

@[simp] theorem setPairQ_sp (r : Regs) (p : PairQ) (v : Word) : (r.setPairQ p v).sp = r.sp := by cases p <;> rfl

@[simp] theorem getIdx_setPairQ (r : Regs) (p : PairQ) (v : Word) (y : Idx) :
    (r.setPairQ p v).getIdx y = r.getIdx y := by
  cases p <;> cases y <;> rfl

/-! ## The index registers and their halves -/

theorem getIdx_setIdx (r : Regs) (x y : Idx) (v : Word) :
    (r.setIdx x v).getIdx y = if y = x then v else r.getIdx y := by
  cases x <;> cases y <;> rfl

@[simp] theorem getIdx_setIdx_same (r : Regs) (x : Idx) (v : Word) : (r.setIdx x v).getIdx x = v := by cases x <;> rfl

@[simp] theorem get8_setIdx (r : Regs) (x : Idx) (v : Word) (m : Reg8) : (r.setIdx x v).get8 m = r.get8 m := by
  cases x <;> cases m <;> rfl

@[simp] theorem setIdx_f (r : Regs) (x : Idx) (v : Word) : (r.setIdx x v).f = r.f := by cases x <;> rfl

@[simp] theorem setIdx_sp (r : Regs) (x : Idx) (v : Word) : (r.setIdx x v).sp = r.sp := by cases x <;> rfl

/-- An index register is the concatenation of its halves (R33). -/
theorem getIdx_eq_wordOf (r : Regs) (x : Idx) : r.getIdx x = wordOf (r.getHalf x .hi) (r.getHalf x .lo) :=
  (wordOf_hiOf_loOf (r.getIdx x)).symm

/-- A half is written as the whole register is, so whatever a write to the whole leaves alone, a write to a half does too. -/
theorem setHalf_eq_setIdx (r : Regs) (x : Idx) (h : Half) (v : Byte) : ∃ w, r.setHalf x h v = r.setIdx x w := by
  cases h <;> exact ⟨_, rfl⟩

theorem getHalf_setHalf (r : Regs) (x : Idx) (h k : Half) (v : Byte) :
    (r.setHalf x h v).getHalf x k = if k = h then v else r.getHalf x k := by
  cases h <;> cases k <;> simp [setHalf, getHalf]

theorem getIdx_setHalf_other (r : Regs) {x y : Idx} (h : Half) (v : Byte) (hy : y ≠ x) :
    (r.setHalf x h v).getIdx y = r.getIdx y := by
  obtain ⟨w, hw⟩ := setHalf_eq_setIdx r x h v
  rw [hw, getIdx_setIdx, if_neg hy]

@[simp] theorem get8_setHalf (r : Regs) (x : Idx) (h : Half) (v : Byte) (m : Reg8) :
    (r.setHalf x h v).get8 m = r.get8 m := by
  obtain ⟨w, hw⟩ := setHalf_eq_setIdx r x h v
  rw [hw, get8_setIdx]

@[simp] theorem setHalf_f (r : Regs) (x : Idx) (h : Half) (v : Byte) : (r.setHalf x h v).f = r.f := by
  obtain ⟨w, hw⟩ := setHalf_eq_setIdx r x h v
  rw [hw, setIdx_f]

@[simp] theorem setHalf_sp (r : Regs) (x : Idx) (h : Half) (v : Byte) : (r.setHalf x h v).sp = r.sp := by
  obtain ⟨w, hw⟩ := setHalf_eq_setIdx r x h v
  rw [hw, setIdx_sp]

/-! ## The 8-bit registers under DD or FD (R247) -/

@[simp] theorem setHalf_a (r : Regs) (x : Idx) (h : Half) (v : Byte) : (r.setHalf x h v).a = r.a := get8_setHalf r x h v .a
@[simp] theorem setHalf_b (r : Regs) (x : Idx) (h : Half) (v : Byte) : (r.setHalf x h v).b = r.b := get8_setHalf r x h v .b
@[simp] theorem setHalf_c (r : Regs) (x : Idx) (h : Half) (v : Byte) : (r.setHalf x h v).c = r.c := get8_setHalf r x h v .c
@[simp] theorem setHalf_d (r : Regs) (x : Idx) (h : Half) (v : Byte) : (r.setHalf x h v).d = r.d := get8_setHalf r x h v .d
@[simp] theorem setHalf_e (r : Regs) (x : Idx) (h : Half) (v : Byte) : (r.setHalf x h v).e = r.e := get8_setHalf r x h v .e
@[simp] theorem setHalf_h (r : Regs) (x : Idx) (h : Half) (v : Byte) : (r.setHalf x h v).h = r.h := get8_setHalf r x h v .h
@[simp] theorem setHalf_l (r : Regs) (x : Idx) (h : Half) (v : Byte) : (r.setHalf x h v).l = r.l := get8_setHalf r x h v .l

theorem getX_setX (r : Regs) (x : Idx) (n m : RegX) (v : Byte) :
    (r.setX x n v).getX x m = if m = n then v else r.getX x m := by
  cases n with
  | xh | xl => cases m <;> simp [setX, getX, getHalf_setHalf]
  | b | c | d | e | a => cases x <;> cases m <;> rfl

theorem getIdx_setX_other (r : Regs) {x y : Idx} (n : RegX) (v : Byte) (hy : y ≠ x) :
    (r.setX x n v).getIdx y = r.getIdx y := by
  cases n with
  | xh => exact getIdx_setHalf_other r .hi v hy
  | xl => exact getIdx_setHalf_other r .lo v hy
  | b | c | d | e | a => cases y <;> rfl

@[simp] theorem setX_h (r : Regs) (x : Idx) (n : RegX) (v : Byte) : (r.setX x n v).h = r.h := by cases n <;> simp [setX]

@[simp] theorem setX_l (r : Regs) (x : Idx) (n : RegX) (v : Byte) : (r.setX x n v).l = r.l := by cases n <;> simp [setX]

@[simp] theorem setX_f (r : Regs) (x : Idx) (n : RegX) (v : Byte) : (r.setX x n v).f = r.f := by cases n <;> simp [setX]

@[simp] theorem setX_sp (r : Regs) (x : Idx) (n : RegX) (v : Byte) : (r.setX x n v).sp = r.sp := by cases n <;> simp [setX]

end Sys2Proof.Machine.Regs

namespace Sys2Proof.Machine

/-- Settles O4: a clause for each way of writing a register, from its reading rule and its frame above. -/
theorem registerViewsShareOneStorage : Obligations.RegisterViewsShareOneStorage := by
  unfold Obligations.RegisterViewsShareOneStorage
  refine ⟨?set8, ?setPair, ?setPairQ, ?named, ?setIdx, ?setHalf, ?setX, ?pairs, ?index⟩
  case set8 => exact fun r n v =>
    ⟨fun m => r.get8_set8 n m v, r.set8_f n v, r.getIdx_set8 n v, r.set8_sp n v⟩
  case setPair => exact fun r p v =>
    ⟨fun q => r.getPair_setPair p q v, r.setPair_af p v, r.getIdx_setPair p v⟩
  case setPairQ => exact fun r p v =>
    ⟨fun q => r.getPairQ_setPairQ p q v, r.getIdx_setPairQ p v, r.setPairQ_sp p v⟩
  case named => exact fun _ _ => ⟨rfl, rfl, rfl, rfl⟩
  case setIdx => exact fun r x v =>
    ⟨fun y => r.getIdx_setIdx x y v, r.get8_setIdx x v, r.setIdx_f x v, r.setIdx_sp x v⟩
  case setHalf => exact fun r x h v =>
    ⟨fun k => r.getHalf_setHalf x h k v, fun _ hy => r.getIdx_setHalf_other h v hy, r.get8_setHalf x h v,
      r.setHalf_f x h v, r.setHalf_sp x h v⟩
  case setX => exact fun r x n v =>
    ⟨fun m => r.getX_setX x n m v, fun _ hy => r.getIdx_setX_other n v hy, r.setX_h x n v, r.setX_l x n v,
      r.setX_f x n v, r.setX_sp x n v⟩
  case pairs => exact fun _ => ⟨wordOf_toNat _ _, wordOf_toNat _ _, wordOf_toNat _ _, wordOf_toNat _ _⟩
  case index =>
    intro r x
    rw [r.getIdx_eq_wordOf x, wordOf_toNat]

/-! SUPPORT. The pairs a reset gives as inputs read back as given (R57). -/

theorem hardReset_bc (u : ResetInputs) (s : State) : (hardReset u s).regs.bc = u.bc := wordOf_hiOf_loOf u.bc

theorem hardReset_de (u : ResetInputs) (s : State) : (hardReset u s).regs.de = u.de := wordOf_hiOf_loOf u.de

theorem hardReset_hl (u : ResetInputs) (s : State) : (hardReset u s).regs.hl = u.hl := wordOf_hiOf_loOf u.hl

/-- R57: AF = 0xFFFF after a reset. -/
theorem hardReset_af (u : ResetInputs) (s : State) : (hardReset u s).regs.af = 0xFFFF :=
  show wordOf 0xFF 0xFF = 0xFFFF by decide

/-- Settles O59: each register that is no pair is a field of the reset state, and the pairs are the lemmas above. -/
theorem resetLeavesTheSpecifiedState : Obligations.ResetLeavesTheSpecifiedState := by
  unfold Obligations.ResetLeavesTheSpecifiedState
  refine ⟨fun u s => ?_, by decide⟩
  exact ⟨rfl, rfl, rfl, rfl, rfl, rfl, rfl, hardReset_af u s, hardReset_bc u s, hardReset_de u s, hardReset_hl u s,
    rfl, rfl, rfl, rfl, rfl, rfl, rfl, rfl, rfl⟩

end Sys2Proof.Machine

/-! SUPPORT. The results and the flags of the 8-bit arithmetic (R251, R252, R260), and signed overflow over integers. -/

namespace Sys2Proof.Machine

/-! ## A flag byte built from its bits -/

theorem flagsAre_mkF (s z f5 h f3 pv n c : Bool) : FlagsAre (mkF s z f5 h f3 pv n c) s z f5 h f3 pv n c :=
  ⟨flagS_mkF .., flagZ_mkF .., flag5_mkF .., flagH_mkF .., flag3_mkF .., flagPV_mkF .., flagN_mkF .., flagC_mkF ..⟩

theorem flagsAre_szF (v : Byte) (h pv n c : Bool) :
    FlagsAre (szF v h pv n c) (v.getLsbD 7) (v == 0) (v.getLsbD 5) h (v.getLsbD 3) pv n c :=
  flagsAre_mkF ..

/-! ## Signed overflow -/

theorem getLsbD_seven_eq_toInt_neg (v : Byte) : v.getLsbD 7 = decide (v.toInt < 0) := by
  rw [← BitVec.msb_eq_toInt, BitVec.msb_eq_getLsbD_last]

theorem toNat_eq_toInt_emod (v : Byte) : (v.toNat : Int) = v.toInt % 256 := by
  have := v.isLt
  rw [BitVec.toInt_eq_toNat_cond]
  split <;> omega

theorem toInt_range (v : Byte) : -128 ≤ v.toInt ∧ v.toInt ≤ 127 :=
  ⟨v.le_toInt, Int.le_of_lt_add_one v.toInt_lt⟩

/-- R251's overflow bit. The result is congruent to the exact signed sum modulo 256, so it is that sum, or that sum moved by
256 into the range of a signed byte, which is where its sign contradicts the operands' common sign. -/
theorem add_overflow_iff {a b res : Byte} {c : Bool} (hres : res.toNat = (a.toNat + b.toNat + c.toNat) % 256) :
    (a.getLsbD 7 == b.getLsbD 7 && res.getLsbD 7 != a.getLsbD 7) = true ↔
      a.toInt + b.toInt + c.toNat < -128 ∨ 127 < a.toInt + b.toInt + c.toNat := by
  have hcong : res.toInt % 256 = (a.toInt + b.toInt + c.toNat) % 256 := by
    have := toNat_eq_toInt_emod a; have := toNat_eq_toInt_emod b; have := toNat_eq_toInt_emod res
    omega
  simp only [getLsbD_seven_eq_toInt_neg, Bool.and_eq_true, beq_iff_eq, bne_iff_ne, decide_eq_decide, ne_eq]
  have := toInt_range a; have := toInt_range b; have := toInt_range res; have := c.toNat_le
  omega

/-- As `add_overflow_iff`, for a difference: two different signs, and a result without the sign of the first operand. -/
theorem sub_overflow_iff {a b res : Byte} {c : Bool}
    (hres : (res.toNat : Int) = ((a.toNat : Int) - b.toNat - c.toNat) % 256) :
    (a.getLsbD 7 != b.getLsbD 7 && res.getLsbD 7 != a.getLsbD 7) = true ↔
      a.toInt - b.toInt - c.toNat < -128 ∨ 127 < a.toInt - b.toInt - c.toNat := by
  have hcong : res.toInt % 256 = (a.toInt - b.toInt - c.toNat) % 256 := by
    have := toNat_eq_toInt_emod a; have := toNat_eq_toInt_emod b; have := toNat_eq_toInt_emod res
    omega
  simp only [getLsbD_seven_eq_toInt_neg, Bool.and_eq_true, bne_iff_ne, decide_eq_decide, ne_eq]
  have := toInt_range a; have := toInt_range b; have := toInt_range res; have := c.toNat_le
  omega

/-! ## `add8` and `sub8` -/

theorem add8_toNat (a b : Byte) (c : Bool) : (add8 a b c).1.toNat = (a.toNat + b.toNat + c.toNat) % 256 :=
  BitVec.toNat_ofNat ..

theorem add8_flagsAre (a b : Byte) (c : Bool) :
    FlagsAre (add8 a b c).2 ((add8 a b c).1.getLsbD 7) ((add8 a b c).1 == 0) ((add8 a b c).1.getLsbD 5)
      (decide (a.toNat % 16 + b.toNat % 16 + c.toNat > 15)) ((add8 a b c).1.getLsbD 3)
      (a.getLsbD 7 == b.getLsbD 7 && (add8 a b c).1.getLsbD 7 != a.getLsbD 7) false
      (decide (a.toNat + b.toNat + c.toNat > 255)) :=
  flagsAre_szF ..

theorem add8_flagPV_iff (a b : Byte) (c : Bool) :
    flagPV (add8 a b c).2 = true ↔ a.toInt + b.toInt + c.toNat < -128 ∨ 127 < a.toInt + b.toInt + c.toNat := by
  rw [(add8_flagsAre a b c).parityOverflow]
  exact add_overflow_iff (add8_toNat a b c)

theorem sub8_toNat (a b : Byte) (c : Bool) :
    ((sub8 a b c).1.toNat : Int) = ((a.toNat : Int) - b.toNat - c.toNat) % 256 := by
  rw [sub8, BitVec.toNat_ofInt]
  omega

theorem sub8_flagsAre (a b : Byte) (c : Bool) :
    FlagsAre (sub8 a b c).2 ((sub8 a b c).1.getLsbD 7) ((sub8 a b c).1 == 0) ((sub8 a b c).1.getLsbD 5)
      (decide (a.toNat % 16 < b.toNat % 16 + c.toNat)) ((sub8 a b c).1.getLsbD 3)
      (a.getLsbD 7 != b.getLsbD 7 && (sub8 a b c).1.getLsbD 7 != a.getLsbD 7) true
      (decide (a.toNat < b.toNat + c.toNat)) := by
  have hborrow : decide ((a.toNat : Int) - b.toNat - c.toNat < 0) = decide (a.toNat < b.toNat + c.toNat) :=
    decide_eq_decide.mpr (by omega)
  rw [← hborrow]
  exact flagsAre_szF ..

theorem sub8_flagPV_iff (a b : Byte) (c : Bool) :
    flagPV (sub8 a b c).2 = true ↔ a.toInt - b.toInt - c.toNat < -128 ∨ 127 < a.toInt - b.toInt - c.toNat := by
  rw [(sub8_flagsAre a b c).parityOverflow]
  exact sub_overflow_iff (sub8_toNat a b c)

/-- Without a borrow in, `sub8` is subtraction of bytes. -/
theorem sub8_false (a b : Byte) : (sub8 a b false).1 = a - b := by
  apply BitVec.eq_of_toNat_eq
  have := sub8_toNat a b false
  rw [Bool.toNat_false] at this
  bv_omega

/-- CP has the flags of a subtraction without borrow, except F5 and F3, which the operand gives (R260). -/
theorem cpF_flagsAre (a b : Byte) :
    FlagsAre (cpF a b) ((a - b).getLsbD 7) (a == b) (b.getLsbD 5) (decide (a.toNat % 16 < b.toNat % 16)) (b.getLsbD 3)
      (a.getLsbD 7 != b.getLsbD 7 && (a - b).getLsbD 7 != a.getLsbD 7) true (decide (a.toNat < b.toNat)) := by
  have hzero : (a - b == 0) = (a == b) := by
    rw [Bool.eq_iff_iff, beq_iff_eq, beq_iff_eq]
    exact sub_eq_zero
  have hsub := sub8_flagsAre a b false
  rw [sub8_false, hzero, Bool.toNat_false, Nat.add_zero, Nat.add_zero] at hsub
  obtain ⟨hS, hZ, -, hH, -, hPV, hN, hC⟩ := hsub
  rw [← hPV, ← hS, ← hZ, ← hH, ← hN, ← hC]
  exact flagsAre_mkF ..

/-! ## The obligations -/

/-- Settles O18: ADD and ADC are `add8` without and with the carry. -/
theorem addAndAdcResultsAndFlags : Obligations.AddAndAdcResultsAndFlags := by
  unfold Obligations.AddAndAdcResultsAndFlags
  intro a v f
  rw [List.forall_mem_cons, List.forall_mem_singleton]
  constructor
  case left => exact ⟨add8_toNat a v false, add8_flagsAre a v false, add8_flagPV_iff a v false⟩
  case right => exact ⟨add8_toNat a v (flagC f), add8_flagsAre a v (flagC f), add8_flagPV_iff a v (flagC f)⟩

/-- Settles O19: SUB and SBC are `sub8` without and with the carry; CP keeps A and has the flags of `cpF`. -/
theorem subSbcAndCpResultsAndFlags : Obligations.SubSbcAndCpResultsAndFlags := by
  unfold Obligations.SubSbcAndCpResultsAndFlags
  intro a v f
  rw [List.forall_mem_cons, List.forall_mem_singleton]
  refine ⟨⟨?sub, ?sbc⟩, ?cpKeepsA, ?cpFlags⟩
  case sub => exact ⟨sub8_toNat a v false, sub8_flagsAre a v false, sub8_flagPV_iff a v false⟩
  case sbc => exact ⟨sub8_toNat a v (flagC f), sub8_flagsAre a v (flagC f), sub8_flagPV_iff a v (flagC f)⟩
  case cpKeepsA => rfl
  case cpFlags => exact cpF_flagsAre a v

end Sys2Proof.Machine

/-! SUPPORT. INT_BLOCKED across an instruction step: the fetch clears it, and only EI and an ignored DD or FD byte
set it again (R51, R171). -/

namespace Sys2Proof.Machine

/-! ## The operations of a meaning that keep INT_BLOCKED -/

@[simp] theorem aluStep_intBlocked (op : AluOp) (v : Byte) (s : State) : (aluStep op v s).intBlocked = s.intBlocked := rfl

@[simp] theorem returnFromHandler_intBlocked (s : State) : s.returnFromHandler.intBlocked = s.intBlocked := rfl

@[simp] theorem blockLd_intBlocked (dir : Word) (s : State) : (blockLd dir s).intBlocked = s.intBlocked := by simp [blockLd]

@[simp] theorem blockCp_intBlocked (dir : Word) (s : State) : (blockCp dir s).intBlocked = s.intBlocked := by simp [blockCp]

@[simp] theorem blockIn_intBlocked (dir : Word) (cdir : Byte) (s : State) :
    (blockIn dir cdir s).intBlocked = s.intBlocked := by
  simp [blockIn]

@[simp] theorem blockOut_intBlocked (dir : Word) (s : State) : (blockOut dir s).intBlocked = s.intBlocked := by
  simp [blockOut]

/-! ## Meanings that keep INT_BLOCKED -/

/-- A meaning that completes from s leaves INT_BLOCKED as it was in s. -/
def KeepsIntBlocked (s : State) : Result → Prop
  | .next t => t.intBlocked = s.intBlocked
  | .fault _ => True
  | .refused _ => True

theorem finish_keepsIntBlocked {cost : Nat} {s u : State} (h : u.intBlocked = s.intBlocked) :
    KeepsIntBlocked s (finish cost u) :=
  h

theorem keepsIntBlocked_ite {s : State} {p : Prop} [Decidable p] {x y : Result} (hx : KeepsIntBlocked s x)
    (hy : KeepsIntBlocked s y) : KeepsIntBlocked s (if p then x else y) := by
  split
  · exact hx
  · exact hy

theorem repeatTail_keepsIntBlocked {again : Bool} {s u : State} (h : u.intBlocked = s.intBlocked) :
    KeepsIntBlocked s (repeatTail again u) :=
  keepsIntBlocked_ite h h

theorem edUndefined_keepsIntBlocked (op : Byte) (s : State) : KeepsIntBlocked s (edUndefined op s) := by
  unfold edUndefined
  split
  · exact rfl
  · trivial

/-- R51: only EI and an ignored DD or FD byte write INT_BLOCKED. The cases named are the meanings with more than one end: the
repeat tail, a condition, and an undefined ED opcode. Every other one is a single `finish` of operations that keep INT_BLOCKED. -/
theorem exec_keepsIntBlocked {i : Instr} (s : State) (hei : i ≠ .ei) (hprefix : ∀ x b, i ≠ .ignoredPrefix x b) :
    KeepsIntBlocked s (exec i s) := by
  cases i with
  | ei => exact absurd rfl hei
  | ignoredPrefix x b => exact absurd rfl (hprefix x b)
  | ldir | lddr => exact repeatTail_keepsIntBlocked (blockLd_intBlocked _ s)
  | cpir | cpdr => exact repeatTail_keepsIntBlocked (blockCp_intBlocked _ s)
  | inir | indr => exact repeatTail_keepsIntBlocked (blockIn_intBlocked _ _ s)
  | otir | otdr => exact repeatTail_keepsIntBlocked (blockOut_intBlocked _ s)
  | jrCc | jpCcNn | retCc | djnz => exact keepsIntBlocked_ite rfl rfl
  | callCcNn => exact keepsIntBlocked_ite (finish_keepsIntBlocked (by simp)) rfl
  | nopEd0 | nopEd1 | nopEd2 | nopEd3 => exact edUndefined_keepsIntBlocked _ s
  | _ => exact finish_keepsIntBlocked (by simp)

/-! ## INT_BLOCKED and IFF1 after an instruction step -/

theorem instructionStep_ei {s t : State} (h : instructionStep s = .next t) (hei : s.fetched = .ei) :
    t.iff1 = true ∧ t.intBlocked = .afterEi := by
  obtain ⟨u, hu, rfl⟩ := instructionStep_next h
  rw [hei] at hu
  cases hu
  exact ⟨State.recorded_iff1 _ _, State.recorded_intBlocked _ _⟩

theorem instructionStep_ignoredPrefix {s t : State} {x : Idx} {b : Byte} (h : instructionStep s = .next t)
    (hprefix : s.fetched = .ignoredPrefix x b) : t.intBlocked = .afterPrefix := by
  obtain ⟨u, hu, rfl⟩ := instructionStep_next h
  rw [hprefix] at hu
  cases hu
  exact State.recorded_intBlocked _ _

theorem instructionStep_other {s t : State} (h : instructionStep s = .next t) (hei : s.fetched ≠ .ei)
    (hprefix : ∀ x b, s.fetched ≠ .ignoredPrefix x b) : t.intBlocked = .none := by
  obtain ⟨u, hu, rfl⟩ := instructionStep_next h
  have hkept := exec_keepsIntBlocked (s.afterFetch s.fetched) hei hprefix
  rw [hu] at hkept
  rw [State.recorded_intBlocked]
  exact hkept

/-! ## Acceptance by INT_BLOCKED (R170, R510, R516) -/

theorem intTaken_of_blocked {s : State} (h : s.intBlocked ≠ .none) : intTaken s = false := by simp [intTaken, h]

theorem nmiTaken_of_afterPrefix {s : State} (h : s.intBlocked = .afterPrefix) : nmiTaken s = false := by simp [nmiTaken, h]

theorem nmiTaken_of_not_afterPrefix {s : State} (h : s.intBlocked ≠ .afterPrefix) : nmiTaken s = s.nmiRequest := by
  simp [nmiTaken, h]

/-- Settles O44: what each kind of instruction leaves in INT_BLOCKED, and what the two acceptances make of it. -/
theorem eiAndPrefixesDelayInterrupts : Obligations.EiAndPrefixesDelayInterrupts := by
  unfold Obligations.EiAndPrefixesDelayInterrupts
  intro s t h
  refine ⟨?ei, ?ignoredPrefix, ?other⟩
  case ei =>
    intro hei
    obtain ⟨hiff, hblocked⟩ := instructionStep_ei h hei
    exact ⟨hiff, intTaken_of_blocked (by simp [hblocked]), nmiTaken_of_not_afterPrefix (by simp [hblocked])⟩
  case ignoredPrefix =>
    rintro ⟨x, b, hprefix⟩
    have hblocked := instructionStep_ignoredPrefix h hprefix
    exact ⟨intTaken_of_blocked (by simp [hblocked]), nmiTaken_of_afterPrefix hblocked⟩
  case other => exact instructionStep_other h

end Sys2Proof.Machine

/-! SUPPORT. The decoder and the encoder against each other (R120 to R139): every instruction decodes from its own bytes, and
every opcode of each page is the encoding of what it decodes to. -/

namespace Sys2Proof

/-! ## From an instruction to its bytes and back -/

theorem bitVec3_cases (y : BitVec 3) : y = 0 ∨ y = 1 ∨ y = 2 ∨ y = 3 ∨ y = 4 ∨ y = 5 ∨ y = 6 ∨ y = 7 := by
  revert y; decide

/-- A list that shows the decoder the whole window decodes (R132). -/
theorem decode_eq_ok {bytes : List Byte} {i : Instr}
    (h : decode4 (bytes.getD 0 0) (bytes.getD 1 0) (bytes.getD 2 0) (bytes.getD 3 0) = i)
    (hlen : i.window ≤ bytes.length) : decode bytes = .ok i := by
  subst h
  exact if_neg (Nat.not_lt.mpr hlen)

/-- R121: the 6 bits of an undefined ED opcode in the first quarter of the page. -/
theorem decodeED_nopEd0 (x : BitVec 6) (b2 b3 : Byte) : decodeED (BitVec.ofNat 8 x.toNat) b2 b3 = .nopEd0 x := by
  have hn : (BitVec.ofNat 8 x.toNat).toNat = x.toNat := by simp; omega
  have hx : opX (BitVec.ofNat 8 x.toNat) = 0 := by rw [opX, hn]; omega
  rw [decodeED, hx, hn]
  exact congrArg _ (BitVec.ofNat_toNat ..)

theorem decodeED_nopEd3 (x : BitVec 6) (b2 b3 : Byte) : decodeED (BitVec.ofNat 8 (192 + x.toNat)) b2 b3 = .nopEd3 x := by
  have hn : (BitVec.ofNat 8 (192 + x.toNat)).toNat = 192 + x.toNat := by simp; omega
  have hx : opX (BitVec.ofNat 8 (192 + x.toNat)) = 3 := by rw [opX, hn]; omega
  rw [decodeED, hx, hn]
  exact congrArg _ (BitVec.eq_of_toNat_eq (by simp only [BitVec.toNat_ofNat]; omega))

/-- The bytes of a well-formed instruction determine it. Where an operand stands in the opcode, the decoder computes for each
value of the operand; `h` excludes the values that are another instruction's. -/
theorem decode4_of_encode {i : Instr} {b0 b1 b2 b3 : Byte} (h : i.wellFormed = true)
    (he : encode i = [b0, b1, b2, b3].take i.window) : decode4 b0 b1 b2 b3 = i := by
  cases i with cases he
  | incR r | decR r | ldRN r | ldRM r | ldMR r | addAR r | adcAR r | subR r | sbcAR r | andR r | xorR r | orR r | cpR r
  | rlcR r | rrcR r | rlR r | rrR r | slaR r | sraR r | sllR r | srlR r | inRC r | outCR r => cases r <;> rfl
  | ldRR r r2 => cases r <;> cases r2 <;> rfl
  | retCc cc => cases cc <;> rfl
  | jrCc cc =>
    cases cc
    any_goals rfl
    all_goals cases h
  | addHlSs p | incSs p | decSs p | sbcHlSs p | adcHlSs p | popQq p | pushQq p => cases p <;> rfl
  | ldDdNn p nn | ldMemDd p nn | ldDdMem p nn => cases p <;> exact congrArg _ (wordOf_hiOf_loOf nn)
  | jpCcNn cc nn | callCcNn cc nn => cases cc <;> exact congrArg _ (wordOf_hiOf_loOf nn)
  | ldMemHl nn | ldMemA nn | ldHlMem nn | ldAMem nn | jpNn nn | callNn nn => exact congrArg _ (wordOf_hiOf_loOf nn)
  | rst y | neg y | bitM y | resM y | setM y =>
    obtain rfl | rfl | rfl | rfl | rfl | rfl | rfl | rfl := bitVec3_cases y <;> rfl
  | bitR b r | resR b r | setR b r =>
    obtain rfl | rfl | rfl | rfl | rfl | rfl | rfl | rfl := bitVec3_cases b <;> cases r <;> rfl
  | retn y | im0 y | im1 y | im2 y | nopEd1 y =>
    obtain rfl | rfl | rfl | rfl | rfl | rfl | rfl | rfl := bitVec3_cases y
    any_goals rfl
    all_goals cases h
  | nopEd2 y z =>
    obtain rfl | rfl | rfl | rfl | rfl | rfl | rfl | rfl := bitVec3_cases y <;>
      obtain rfl | rfl | rfl | rfl | rfl | rfl | rfl | rfl := bitVec3_cases z
    any_goals rfl
    all_goals cases h
  | nopEd0 x => exact decodeED_nopEd0 x _ _
  | nopEd3 x => exact decodeED_nopEd3 x _ _
  | ldIxNn x nn | ldMemIx x nn | ldIxMem x nn => cases x <;> exact congrArg _ (wordOf_hiOf_loOf nn)
  | incIx x | decIx x | incX x | decX x | ldXN x | addAX x | adcAX x | subX x | sbcAX x | andX x | xorX x | orX x | cpX x
  | popIx x | exSpIx x | pushIx x | jpIx x | ldSpIx x | rlcX x | rrcX x | rlX x | rrX x | slaX x | sraX x | sllX x
  | srlX x => cases x <;> rfl
  | addIxPp x p | incHalf x p | decHalf x p | ldHalfN x p | addAHalf x p | adcAHalf x p | subHalf x p | sbcAHalf x p
  | andHalf x p | xorHalf x p | orHalf x p | cpHalf x p | ldRX x p | ldXR x _ p | rlcXR x _ p | rrcXR x _ p | rlXR x _ p
  | rrXR x _ p | slaXR x _ p | sraXR x _ p | sllXR x _ p | srlXR x _ p => cases x <;> cases p <;> rfl
  | ldRxRy x r r2 =>
    cases x <;> cases r <;> cases r2
    any_goals rfl
    all_goals cases h
  | ignoredPrefix x =>
    have hb : indexable b1 = false := by simpa [Instr.wellFormed] using h
    cases x <;> exact if_neg (by simp [hb])
  | bitX x d b z =>
    obtain rfl | rfl | rfl | rfl | rfl | rfl | rfl | rfl := bitVec3_cases b <;>
      obtain rfl | rfl | rfl | rfl | rfl | rfl | rfl | rfl := bitVec3_cases z <;> cases x <;> rfl
  | resX x d b | setX x d b =>
    obtain rfl | rfl | rfl | rfl | rfl | rfl | rfl | rfl := bitVec3_cases b <;> cases x <;> rfl
  | resXR x d b r | setXR x d b r =>
    obtain rfl | rfl | rfl | rfl | rfl | rfl | rfl | rfl := bitVec3_cases b <;> cases x <;> cases r <;> rfl
  | _ => rfl

/-! ## From bytes to an instruction and back -/

theorem exists_opByte (op : Byte) : ∃ x y z, x < 4 ∧ y < 8 ∧ z < 8 ∧ op = opByte x y z :=
  ⟨opX op, opY op, opZ op, by simp only [opX]; omega, by simp only [opY]; omega, by simp only [opZ]; omega,
    BitVec.eq_of_toNat_eq (by simp only [opByte, opX, opY, opZ, BitVec.toNat_ofNat]; omega)⟩

theorem opNn_wordOf (op lo hi : Byte) : opNn op (wordOf hi lo) = [op, lo, hi] := by simp [opNn]

/-- The instruction is well formed, and its encoding is the part of these bytes that the decoder has to see for it. -/
def Begins (i : Instr) (bytes : List Byte) : Prop := i.wellFormed = true ∧ encode i = bytes.take i.window

theorem decodeMain0_begins {b0 : Byte} (b1 b2 b3 : Byte) (hx : opX b0 = 0) :
    Begins (decodeMain0 b0 b1 b2) [b0, b1, b2, b3] := by
  obtain ⟨x, y, z, hx4, hy, hz, rfl⟩ := exists_opByte b0
  obtain rfl : x = 0 := (opX_opByte hx4 hy hz).symm.trans hx
  interval_cases z <;> interval_cases y
  any_goals exact ⟨rfl, rfl⟩
  all_goals exact ⟨rfl, opNn_wordOf ..⟩

theorem decodeMain1_begins {b0 : Byte} (b1 b2 b3 : Byte) (hx : opX b0 = 1) :
    Begins (decodeMain1 b0) [b0, b1, b2, b3] := by
  obtain ⟨x, y, z, hx4, hy, hz, rfl⟩ := exists_opByte b0
  obtain rfl : x = 1 := (opX_opByte hx4 hy hz).symm.trans hx
  interval_cases z <;> interval_cases y <;> exact ⟨rfl, rfl⟩

theorem aluOf_begins {b0 : Byte} (b1 b2 b3 : Byte) (hx : opX b0 = 2) :
    Begins (aluOf (opY b0) (regOf (opZ b0))) [b0, b1, b2, b3] := by
  obtain ⟨x, y, z, hx4, hy, hz, rfl⟩ := exists_opByte b0
  obtain rfl : x = 2 := (opX_opByte hx4 hy hz).symm.trans hx
  interval_cases z <;> interval_cases y <;> exact ⟨rfl, rfl⟩

theorem decodeCB_begins (op b2 b3 : Byte) : Begins (decodeCB op) [0xCB, op, b2, b3] := by
  obtain ⟨x, y, z, hx, hy, hz, rfl⟩ := exists_opByte op
  interval_cases x <;> interval_cases y <;> interval_cases z <;> exact ⟨rfl, rfl⟩

theorem decodeXCB_begins (i : Idx) (d op : Byte) : Begins (decodeXCB i d op) [i.byte, 0xCB, d, op] := by
  obtain ⟨x, y, z, hx, hy, hz, rfl⟩ := exists_opByte op
  interval_cases x <;> interval_cases y <;> interval_cases z <;> exact ⟨rfl, rfl⟩

theorem decodeED_begins (op b2 b3 : Byte) : Begins (decodeED op b2 b3) [0xED, op, b2, b3] := by
  obtain ⟨x, y, z, hx, hy, hz, rfl⟩ := exists_opByte op
  interval_cases x <;> interval_cases y <;> interval_cases z
  any_goals exact ⟨rfl, rfl⟩
  all_goals exact ⟨rfl, congrArg _ (opNn_wordOf ..)⟩

theorem decodeXY_begins (i : Idx) (op b2 b3 : Byte) : Begins (decodeXY i op b2 b3) [i.byte, op, b2, b3] := by
  by_cases hcb : op = 0xCB
  · subst hcb
    exact decodeXCB_begins i b2 b3
  · obtain ⟨x, y, z, hx, hy, hz, rfl⟩ := exists_opByte op
    interval_cases x <;> interval_cases y <;> interval_cases z
    any_goals exact ⟨rfl, rfl⟩
    any_goals exact ⟨rfl, congrArg _ (opNn_wordOf ..)⟩
    exact absurd rfl hcb

theorem decodeMain3_begins {b0 : Byte} (b1 b2 b3 : Byte) (hx : opX b0 = 3) :
    Begins (decodeMain3 b0 b1 b2 b3) [b0, b1, b2, b3] := by
  obtain ⟨x, y, z, hx4, hy, hz, rfl⟩ := exists_opByte b0
  obtain rfl : x = 3 := (opX_opByte hx4 hy hz).symm.trans hx
  interval_cases y <;> interval_cases z
  any_goals exact ⟨rfl, rfl⟩
  any_goals exact ⟨rfl, opNn_wordOf ..⟩
  · exact decodeCB_begins b1 b2 b3
  · exact decodeXY_begins .ix b1 b2 b3
  · exact decodeED_begins b1 b2 b3
  · exact decodeXY_begins .iy b1 b2 b3

theorem opX_cases (op : Byte) : opX op = 0 ∨ opX op = 1 ∨ opX op = 2 ∨ opX op = 3 := by unfold opX; omega

/-- R132: whatever the bytes, what they decode to is a well-formed instruction that they begin with. -/
theorem decode4_begins (b0 b1 b2 b3 : Byte) : Begins (decode4 b0 b1 b2 b3) [b0, b1, b2, b3] := by
  obtain hx | hx | hx | hx := opX_cases b0 <;> rw [decode4, hx]
  · exact decodeMain0_begins b1 b2 b3 hx
  · exact decodeMain1_begins b1 b2 b3 hx
  · exact aluOf_begins b1 b2 b3 hx
  · exact decodeMain3_begins b1 b2 b3 hx

theorem Instr.window_le_four (i : Instr) : i.window ≤ 4 := by
  cases i <;> exact Nat.le_of_ble_eq_true rfl

theorem decode_four (b0 b1 b2 b3 : Byte) : decode [b0, b1, b2, b3] = .ok (decode4 b0 b1 b2 b3) :=
  decode_eq_ok rfl (Instr.window_le_four _)

theorem encode_length (i : Instr) : (encode i).length = i.window := by
  cases i <;> rfl

/-- Settles O3: what the bytes decode to begins them, and any instruction that begins them is what they decode to. -/
theorem everyByteSequenceIsOneInstruction : Obligations.EveryByteSequenceIsOneInstruction := by
  unfold Obligations.EveryByteSequenceIsOneInstruction
  intro b0 b1 b2 b3
  obtain ⟨hwf, henc⟩ := decode4_begins b0 b1 b2 b3
  exact ⟨decode4 b0 b1 b2 b3, decode_four b0 b1 b2 b3, hwf, henc, fun j hj he => (decode4_of_encode hj he).symm⟩

theorem take_getD_append {l : List Byte} (rest : List Byte) (h : l.length ≤ 4) :
    [(l ++ rest).getD 0 0, (l ++ rest).getD 1 0, (l ++ rest).getD 2 0, (l ++ rest).getD 3 0].take l.length = l := by
  match l, h with
  | [], _ => rfl
  | [_], _ => rfl
  | [_, _], _ => rfl
  | [_, _, _], _ => rfl
  | [_, _, _, _], _ => rfl

/-- Settles O2: the encoding is the part of the bytes the decoder has to see, and that part determines the instruction. -/
theorem decodeOfEncodeIsTheInstruction : Obligations.DecodeOfEncodeIsTheInstruction := by
  unfold Obligations.DecodeOfEncodeIsTheInstruction
  intro i rest hwf
  have hlen := encode_length i
  refine decode_eq_ok (decode4_of_encode hwf ?_) (by rw [List.length_append]; omega)
  rw [← hlen]
  exact (take_getD_append rest (hlen ▸ i.window_le_four)).symm

/-- Settles O1: each word is a closed case of the decoder. -/
theorem specWordsDecode : Obligations.SpecWordsDecode := by
  unfold Obligations.SpecWordsDecode
  decide

/-! ## M1 fetches (R37, R172) -/

/-- The M1 count by the first byte of the encoding: only the first byte of a main-page or indexed instruction depends on
its operands. -/
theorem m1_eq (i : Instr) :
    i.m1 = if (encode i).head? = some 0xCB ∨ (encode i).head? = some 0xED then 2
      else if (encode i).head? = some 0xDD ∨ (encode i).head? = some 0xFD then i.length.min 2
      else 1 := by
  cases i with
  | incR r | decR r | ldRN r | ldRM r | ldMR r | addAR r | adcAR r | subR r | sbcAR r | andR r | xorR r | orR r | cpR r =>
    cases r <;> rfl
  | ldRR r r2 => cases r <;> cases r2 <;> rfl
  | jrCc cc | retCc cc | jpCcNn cc | callCcNn cc => cases cc <;> rfl
  | addHlSs p | incSs p | decSs p | popQq p | pushQq p | ldDdNn p => cases p <;> rfl
  | rst p => obtain rfl | rfl | rfl | rfl | rfl | rfl | rfl | rfl := bitVec3_cases p <;> rfl
  | addIxPp x | ldIxNn x | ldMemIx x | incIx x | ldIxMem x | decIx x | incHalf x | decHalf x | ldHalfN x | incX x | decX x
  | ldXN x | ldRxRy x | ldRX x | ldXR x | addAHalf x | addAX x | adcAHalf x | adcAX x | subHalf x | subX x | sbcAHalf x
  | sbcAX x | andHalf x | andX x | xorHalf x | xorX x | orHalf x | orX x | cpHalf x | cpX x | popIx x | exSpIx x | pushIx x
  | jpIx x | ldSpIx x | ignoredPrefix x | rlcX x | rlcXR x | rrcX x | rrcXR x | rlX x | rlXR x | rrX x | rrXR x | slaX x
  | slaXR x | sraX x | sraXR x | sllX x | sllXR x | srlX x | srlXR x | bitX x | resX x | resXR x | setX x | setXR x =>
    cases x <;> rfl
  | _ => rfl

theorem Machine.State.rInc_r_toNat (s : Machine.State) (n : Nat) :
    (s.rInc n).r.toNat = s.r.toNat / 128 * 128 + (s.r.toNat % 128 + n) % 128 := by
  simp only [Machine.State.rInc_r, BitVec.toNat_ofNat]
  omega

/-- Settles O39: R's low bits count, and the M1 count is read off the first byte. -/
theorem refreshCountsM1Fetches : Obligations.RefreshCountsM1Fetches := by
  unfold Obligations.RefreshCountsM1Fetches
  exact ⟨fun s n => ⟨s.rInc_r_toNat n, rfl⟩, fun i _ => m1_eq i⟩

end Sys2Proof

/-! SUPPORT. What any instruction does to memory, to T and to the control state, and when it faults: one lemma over all
instructions for each (R84, R86, R174, R178). -/

namespace Sys2Proof.Machine

/-! ## Properties of the state a meaning ends in -/

/-- The state a meaning completes with has the property, if it completes. -/
def Ends (P : State → Prop) : Result → Prop
  | .next t => P t
  | .fault _ => True
  | .refused _ => True

@[simp] theorem ends_next {P : State → Prop} {t : State} : Ends P (.next t) ↔ P t := Iff.rfl

theorem ends_finish {P : State → Prop} {cost : Nat} {u : State} (h : P (u.addT cost)) : Ends P (finish cost u) := h

theorem ends_ite {P : State → Prop} {c : Prop} [Decidable c] {x y : Result} (hx : c → Ends P x) (hy : ¬c → Ends P y) :
    Ends P (if c then x else y) := by
  split
  · exact hx ‹_›
  · exact hy ‹_›

theorem ends_repeatTail {P : State → Prop} {again : Bool} {u : State}
    (h : P (((u.setPc (u.pc0 2)).setMemptr (u.pc0 2 + 1)).addT 21)) (h' : P (u.addT 16)) : Ends P (repeatTail again u) :=
  ends_ite (fun _ => h) (fun _ => h')

theorem ends_edUndefined {P : State → Prop} {op : Byte} {s : State} (h : P (s.addT 8)) : Ends P (edUndefined op s) := by
  unfold edUndefined
  split
  · exact h
  · trivial

/-! ## Memory (R84, R86) -/

theorem State.write_mem_congr {s u : State} (hm : u.mem = s.mem) (hp : u.params = s.params) (a : Word) (v : Byte) :
    (u.write a v).mem = (s.write a v).mem := by
  rw [State.write_mem, State.write_mem, hm, hp]

@[simp] theorem applyWrites_nil (s : State) : applyWrites s [] = s := rfl
@[simp] theorem applyWrites_read (s : State) (a : Word) (l : List Access) :
    applyWrites s (.read a :: l) = applyWrites s l := rfl
@[simp] theorem applyWrites_write (s : State) (a : Word) (v : Byte) (l : List Access) :
    applyWrites s (.write a v :: l) = applyWrites (s.write a v) l := rfl
@[simp] theorem applyWrites_wordRead (s : State) (a : Word) : applyWrites s (wordRead a) = s := rfl
@[simp] theorem applyWrites_wordRead_append (s : State) (a : Word) (l : List Access) :
    applyWrites s (wordRead a ++ l) = applyWrites s l := rfl
@[simp] theorem applyWrites_wordWrite (s : State) (a v : Word) : applyWrites s (wordWrite a v) = s.write16 a v := rfl
@[simp] theorem applyWrites_change (s : State) (a : Word) (v : Byte) : applyWrites s (change a v) = s.write a v := rfl
@[simp] theorem applyWrites_pushWrites_mem (s : State) (v : Word) :
    (applyWrites s (pushWrites s.regs.sp v)).mem = (s.push v).mem := (s.push_mem v).symm

@[simp] theorem aluStep_mem (op : AluOp) (v : Byte) (s : State) : (aluStep op v s).mem = s.mem := rfl

@[simp] theorem returnFromHandler_mem (s : State) : s.returnFromHandler.mem = s.mem := rfl


@[simp] theorem blockLd_mem (dir : Word) (s : State) : (blockLd dir s).mem = (s.write s.de (s.read s.hl)).mem := by
  simp [blockLd]

@[simp] theorem blockCp_mem (dir : Word) (s : State) : (blockCp dir s).mem = s.mem := by simp [blockCp]

@[simp] theorem blockIn_mem (dir : Word) (cdir : Byte) (s : State) :
    (blockIn dir cdir s).mem = (s.write s.hl (s.portByte s.bc)).mem :=
  State.write_mem_congr s.afterPortRead_mem s.afterPortRead_params _ _

@[simp] theorem blockOut_mem (dir : Word) (s : State) : (blockOut dir s).mem = s.mem := by simp [blockOut]

theorem finish_mem {cost : Nat} {u : State} {m : Memory} (h : u.mem = m) : Ends (fun t => t.mem = m) (finish cost u) :=
  (u.addT_mem cost).trans h

theorem repeatTail_mem {again : Bool} {u : State} {m : Memory} (h : u.mem = m) :
    Ends (fun t => t.mem = m) (repeatTail again u) :=
  ends_ite (fun _ => finish_mem h) (fun _ => finish_mem h)

/-- The memory an instruction leaves is memory with its reported stores made. -/
theorem exec_mem (i : Instr) (s : State) :
    Ends (fun t => t.mem = (applyWrites s (dataAccesses i s)).mem) (exec i s) := by
  cases i with
  | ldir | lddr | cpir | cpdr | inir | indr | otir | otdr =>
    exact repeatTail_mem (by simp [dataAccesses])
  | callCcNn cc =>
    exact ends_ite (fun h => by simp [dataAccesses, h]) (fun h => by simp [dataAccesses, h])
  | retCc cc => exact ends_ite (fun h => by simp [dataAccesses, h]) (fun h => by simp [dataAccesses, h])
  | jrCc | jpCcNn | djnz => exact ends_ite (fun _ => rfl) (fun _ => rfl)
  | nopEd0 | nopEd1 | nopEd2 | nopEd3 => exact ends_edUndefined rfl
  | _ => exact finish_mem (by simp [dataAccesses])

theorem exec_next_mem {i : Instr} {s t : State} (h : exec i s = .next t) :
    t.mem = (applyWrites s (dataAccesses i s)).mem := by
  have hm := exec_mem i s
  rw [h] at hm
  exact hm

/-- What every store keeps, all the reported stores keep. -/
theorem applyWrites_induction {P : State → Prop} (hstep : ∀ s a v, P s → P (s.write a v)) {s : State} (l : List Access)
    (h : P s) : P (applyWrites s l) := by
  induction l generalizing s with
  | nil => exact h
  | cons x rest ih =>
    cases x with
    | read a => exact ih h
    | write a v => exact ih (hstep s a v h)

theorem applyWrites_wf {s : State} (l : List Access) (h : s.mem.wf = true) : (applyWrites s l).mem.wf = true :=
  applyWrites_induction (P := fun u => u.mem.wf = true) (fun u a v hu => u.write_wf a v hu) l h

/-- R84: no store changes a byte below ROM_LIMIT. -/
theorem State.read_write_rom {s : State} {a b : Word} (v : Byte) (hb : b.toNat < s.params.romLimit) :
    (s.write a v).read b = s.read b := by
  by_cases hab : b = a
  · subst hab
    rw [State.write, if_pos hb]
  · exact s.read_write_other v hab

/-- From `s` to `t` the parameters and every byte below ROM_LIMIT stay. -/
def KeepsRom (s t : State) : Prop :=
  t.params = s.params ∧ ∀ a : Word, a.toNat < s.params.romLimit → t.read a = s.read a

theorem KeepsRom.refl (s : State) : KeepsRom s s := ⟨rfl, fun _ _ => rfl⟩

theorem KeepsRom.of_eq {s t : State} (hp : t.params = s.params) (hm : t.mem = s.mem) : KeepsRom s t :=
  ⟨hp, fun a _ => State.read_congr hm a⟩

theorem KeepsRom.trans {s t u : State} (h : KeepsRom s t) (h' : KeepsRom t u) : KeepsRom s u :=
  ⟨h'.1.trans h.1, fun a ha => (h'.2 a (by rwa [h.1])).trans (h.2 a ha)⟩

theorem keepsRom_write (s : State) (a : Word) (v : Byte) : KeepsRom s (s.write a v) :=
  ⟨s.write_params a v, fun _ hb => State.read_write_rom v hb⟩

theorem applyWrites_keepsRom (s : State) (l : List Access) : KeepsRom s (applyWrites s l) :=
  applyWrites_induction (P := KeepsRom s) (fun u a v hu => hu.trans (keepsRom_write u a v)) l (KeepsRom.refl s)

theorem read_applyWrites_other {a : Word} {s : State} {l : List Access} (h : writesTo a l = false) :
    (applyWrites s l).read a = s.read a := by
  induction l generalizing s with
  | nil => rfl
  | cons x rest ih =>
    cases x with
    | read b => exact ih (by simpa [writesTo] using h)
    | write b v =>
      have hab : a ≠ b ∧ writesTo a rest = false := by simpa [writesTo] using h
      exact (ih hab.2).trans (s.read_write_other v hab.1)

/-- Settles O7: the memory an instruction leaves is `exec_mem`, and its reported stores leave the other bytes alone. -/
theorem memoryChangesOnlyByReportedStores : Obligations.MemoryChangesOnlyByReportedStores := by
  unfold Obligations.MemoryChangesOnlyByReportedStores
  intro i s t h
  have hm := exec_next_mem h
  exact ⟨hm, fun a ha => (State.read_congr hm a).trans (read_applyWrites_other ha)⟩

theorem exec_wf {i : Instr} {s t : State} (h : exec i s = .next t) (hw : s.mem.wf = true) : t.mem.wf = true := by
  rw [exec_next_mem h]
  exact applyWrites_wf _ hw

/-! ## The control state (R32, R36 to R39, R51, R52) -/

/-- The part of the state that the instructions share with nobody but a few writers: everything but the main registers, PC,
MEMPTR, T, memory, and what moves with every Tracer call. -/
structure Control where
  shadow : Shadow
  i : Byte
  r : Byte
  iff1 : Bool
  iff2 : Bool
  im : IntMode
  intBlocked : IntBlocked
  halted : Bool
  runStatus : RunStatus
  tape : Option Tape
  warnings : List Warning
  params : Params
  ports : PortSource
  portWrites : List PortWrite
  border : Option (BitVec 3)

namespace State

def control (s : State) : Control :=
  { shadow := s.shadow, i := s.i, r := s.r, iff1 := s.iff1, iff2 := s.iff2, im := s.im, intBlocked := s.intBlocked
    halted := s.halted, runStatus := s.runStatus, tape := s.tape, warnings := s.warnings, params := s.params
    ports := s.env.ports, portWrites := s.trace.portWrites, border := s.trace.border }

@[simp] theorem setA_control (s : State) (v : Byte) : (s.setA v).control = s.control := rfl
@[simp] theorem setF_control (s : State) (v : Byte) : (s.setF v).control = s.control := rfl
@[simp] theorem setAF_control (s : State) (v : Byte × Byte) : (s.setAF v).control = s.control := rfl
@[simp] theorem setSp_control (s : State) (v : Word) : (s.setSp v).control = s.control := rfl
@[simp] theorem setReg8_control (s : State) (n : Reg8) (v : Byte) : (s.setReg8 n v).control = s.control := rfl
@[simp] theorem setIdx_control (s : State) (x : Idx) (v : Word) : (s.setIdx x v).control = s.control := rfl
@[simp] theorem setHalf_control (s : State) (x : Idx) (h : Half) (v : Byte) : (s.setHalf x h v).control = s.control := rfl
@[simp] theorem setX_control (s : State) (x : Idx) (n : RegX) (v : Byte) : (s.setX x n v).control = s.control := rfl
@[simp] theorem setPair_control (s : State) (p : Pair) (v : Word) : (s.setPair p v).control = s.control := rfl
@[simp] theorem setPairQ_control (s : State) (p : PairQ) (v : Word) : (s.setPairQ p v).control = s.control := rfl
@[simp] theorem setBc_control (s : State) (v : Word) : (s.setBc v).control = s.control := rfl
@[simp] theorem setDe_control (s : State) (v : Word) : (s.setDe v).control = s.control := rfl
@[simp] theorem setHl_control (s : State) (v : Word) : (s.setHl v).control = s.control := rfl
@[simp] theorem setPc_control (s : State) (v : Word) : (s.setPc v).control = s.control := rfl
@[simp] theorem setMemptr_control (s : State) (v : Word) : (s.setMemptr v).control = s.control := rfl
@[simp] theorem jump_control (s : State) (v : Word) : (s.jump v).control = s.control := rfl
@[simp] theorem addT_control (s : State) (n : Nat) : (s.addT n).control = s.control := rfl
@[simp] theorem afterPop_control (s : State) : s.afterPop.control = s.control := rfl

@[simp] theorem write_control (s : State) (a : Word) (v : Byte) : (s.write a v).control = s.control := by simp [control]
@[simp] theorem write16_control (s : State) (a v : Word) : (s.write16 a v).control = s.control := by simp [control]
@[simp] theorem push_control (s : State) (v : Word) : (s.push v).control = s.control := by simp [control]

/-- A Tracer call moves only the Tracer's own answers on. -/
@[simp] theorem tracerCall_control (s : State) (n : Nat) : (s.tracerCall n).control = s.control := by
  unfold tracerCall
  split <;> rfl

@[simp] theorem afterPortRead_control (s : State) : s.afterPortRead.control = { s.control with ports := s.portsAsked } :=
  tracerCall_control ..

/-- The control state with one more port write (R92). -/
def controlWithWrite (s : State) (p : Word) (v : Byte) : Control :=
  { s.control with
    portWrites := { port := p, value := v, t0 := s.t } :: s.trace.portWrites, border := s.borderAfter p v }

@[simp] theorem portWrite_control (s : State) (p : Word) (v : Byte) :
    (s.portWrite p v).control = s.controlWithWrite p v :=
  tracerCall_control ..

end State

@[simp] theorem aluStep_control (op : AluOp) (v : Byte) (s : State) : (aluStep op v s).control = s.control := rfl

@[simp] theorem blockLd_control (dir : Word) (s : State) : (blockLd dir s).control = s.control := by simp [blockLd]

@[simp] theorem blockCp_control (dir : Word) (s : State) : (blockCp dir s).control = s.control := by simp [blockCp]

@[simp] theorem blockIn_control (dir : Word) (cdir : Byte) (s : State) :
    (blockIn dir cdir s).control = { s.control with ports := s.portsAsked } := by
  simp [blockIn]

/-- The port of a block output is BC with B already counted down (R392). -/
def blockOutPort (s : State) : Word := wordOf (s.regs.b - 1) s.regs.c

@[simp] theorem blockOut_control (dir : Word) (s : State) : (blockOut dir s).control =
    s.controlWithWrite (blockOutPort s) (s.read s.hl) := by
  simp only [blockOut, State.setF_control, State.setHl_control, State.setMemptr_control, State.portWrite_control]
  rfl

/-- The control state an instruction leaves. -/
def controlAfter (i : Instr) (s : State) : Control :=
  match i with
  | .ldIA => { s.control with i := s.regs.a }
  | .ldRA => { s.control with r := s.regs.a }
  | .im0 _ => { s.control with im := .im0 }
  | .im1 _ => { s.control with im := .im1 }
  | .im2 _ => { s.control with im := .im2 }
  | .di => { s.control with iff1 := false, iff2 := false }
  | .ei => { s.control with iff1 := true, iff2 := true, intBlocked := .afterEi }
  | .reti | .retn _ => { s.control with iff1 := s.iff2 }
  | .exAfAf => { s.control with shadow := { s.shadow with a := s.regs.a, f := s.regs.f } }
  | .exx =>
    { s.control with shadow := { s.shadow with
        b := s.regs.b, c := s.regs.c, d := s.regs.d, e := s.regs.e, h := s.regs.h, l := s.regs.l } }
  | .halt => { s.control with halted := true }
  | .ignoredPrefix .. => { s.control with intBlocked := .afterPrefix }
  | .inAN _ | .inRC _ | .inFC | .ini | .inir | .ind | .indr => { s.control with ports := s.portsAsked }
  | .outNA n => s.controlWithWrite (wordOf s.regs.a n) s.regs.a
  | .outCR r => s.controlWithWrite s.bc (s.regs.get8 r)
  | .outC0 => s.controlWithWrite s.bc 0x00
  | .outi | .outd | .otir | .otdr => s.controlWithWrite (blockOutPort s) (s.read s.hl)
  | _ => s.control

theorem finish_control {cost : Nat} {u : State} {c : Control} (h : u.control = c) :
    Ends (fun t => t.control = c) (finish cost u) := (u.addT_control cost).trans h

theorem repeatTail_control {again : Bool} {u : State} {c : Control} (h : u.control = c) :
    Ends (fun t => t.control = c) (repeatTail again u) :=
  ends_ite (fun _ => finish_control h) (fun _ => finish_control h)

theorem exec_control (i : Instr) (s : State) : Ends (fun t => t.control = controlAfter i s) (exec i s) := by
  cases i with
  | ldir | lddr => exact repeatTail_control (blockLd_control _ s)
  | cpir | cpdr => exact repeatTail_control (blockCp_control _ s)
  | inir | indr => exact repeatTail_control (blockIn_control _ _ s)
  | otir | otdr => exact repeatTail_control (by simp [controlAfter])
  | jrCc | jpCcNn | retCc | djnz => exact ends_ite (fun _ => finish_control rfl) (fun _ => finish_control rfl)
  | callCcNn => exact ends_ite (fun _ => finish_control (by simp [controlAfter])) (fun _ => finish_control rfl)
  | nopEd0 | nopEd1 | nopEd2 | nopEd3 => exact ends_edUndefined rfl
  | exDeHl | exAfAf | exx | ldIA | ldRA | im0 | im1 | im2 | di | ei | reti | retn | halt | ignoredPrefix => exact finish_control rfl
  | _ => exact finish_control (by simp [controlAfter])

theorem exec_next_control {i : Instr} {s t : State} (h : exec i s = .next t) : t.control = controlAfter i s := by
  have hc := exec_control i s
  rw [h] at hc
  exact hc

/-- Settles O47: each clause compares one field of `controlAfter` with the state before, by the rows of `controlAfter`. -/
theorem eachControlRegisterHasItsWriters : Obligations.EachControlRegisterHasItsWriters := by
  unfold Obligations.EachControlRegisterHasItsWriters
  intro i s t h
  have hc := exec_next_control h
  unfold controlAfter at hc
  split at hc <;> simp only [State.controlWithWrite, State.control, Control.mk.injEq] at hc <;>
    obtain ⟨hshadow, hi, hr, hiff1, hiff2, him, hblocked, hhalted, hstatus, htape, hwarnings, hparams, hports, hwrites,
      hborder⟩ := hc <;>
    simp [*, readsPort]

/-! ## Time (R174) -/

/-- The meaning takes 4 to 23 T-states, if it completes. -/
def TakesTime (s : State) : Result → Prop := Ends (fun t => s.t + 4 ≤ t.t ∧ t.t ≤ s.t + 23)

theorem finish_takesTime {cost : Nat} {s u : State} (h : u.t = s.t) (hlo : 4 ≤ cost := by decide)
    (hhi : cost ≤ 23 := by decide) : TakesTime s (finish cost u) := by
  have ht : (u.addT cost).t = s.t + cost := by rw [State.addT_t, h]
  exact ⟨by omega, by omega⟩

theorem repeatTail_takesTime {again : Bool} {s u : State} (h : u.t = s.t) : TakesTime s (repeatTail again u) :=
  ends_ite (fun _ => finish_takesTime h) (fun _ => finish_takesTime h)

@[simp] theorem blockLd_t (dir : Word) (s : State) : (blockLd dir s).t = s.t := by simp [blockLd]

@[simp] theorem blockCp_t (dir : Word) (s : State) : (blockCp dir s).t = s.t := by simp [blockCp]

@[simp] theorem blockIn_t (dir : Word) (cdir : Byte) (s : State) : (blockIn dir cdir s).t = s.t := by simp [blockIn]

@[simp] theorem blockOut_t (dir : Word) (s : State) : (blockOut dir s).t = s.t := by simp [blockOut]

@[simp] theorem aluStep_t (op : AluOp) (v : Byte) (s : State) : (aluStep op v s).t = s.t := rfl

@[simp] theorem returnFromHandler_t (s : State) : s.returnFromHandler.t = s.t := rfl

/-- R174, R181: an instruction takes 4 to 23 T-states. -/
theorem exec_takesTime (i : Instr) (s : State) : TakesTime s (exec i s) := by
  cases i with
  | ldir | lddr => exact repeatTail_takesTime (blockLd_t _ s)
  | cpir | cpdr => exact repeatTail_takesTime (blockCp_t _ s)
  | inir | indr => exact repeatTail_takesTime (blockIn_t _ _ s)
  | otir | otdr => exact repeatTail_takesTime (blockOut_t _ s)
  | jrCc | jpCcNn | retCc | djnz => exact ends_ite (fun _ => finish_takesTime rfl) (fun _ => finish_takesTime rfl)
  | callCcNn => exact ends_ite (fun _ => finish_takesTime (by simp)) (fun _ => finish_takesTime rfl)
  | nopEd0 | nopEd1 | nopEd2 | nopEd3 =>
    exact ends_edUndefined ⟨Nat.add_le_add_left (by decide) _, Nat.add_le_add_left (by decide) _⟩
  | _ => exact finish_takesTime (by simp)

/-! ## Faults (R178, R362) -/

/-- An undefined ED opcode, and no other instruction, faults where ED_UNDEFINED says so. -/
theorem exec_cases (i : Instr) (s : State) :
    (∃ t, exec i s = .next t) ∨
    (s.params.edUndefined = .fault ∧ i.length = 2 ∧
      ∃ op, encode i = [0xED, op] ∧ exec i s = .fault (.undefinedOpcode (s.pc - 2) op)) := by
  cases i with
  | nopEd0 | nopEd1 | nopEd2 | nopEd3 =>
    cases hp : s.params.edUndefined with
    | nop => exact .inl ⟨s.addT 8, by simp [exec, execNopEd0, execNopEd1, execNopEd2, execNopEd3, edUndefined, hp]⟩
    | fault =>
      exact .inr ⟨rfl, rfl, _, rfl, by
        simp [exec, execNopEd0, execNopEd1, execNopEd2, execNopEd3, edUndefined, hp, State.pc0]⟩
  | ldir | lddr | cpir | cpdr | inir | indr | otir | otdr => exact .inl ⟨_, repeatTail_eq ..⟩
  | jrCc cc | jpCcNn cc | retCc cc | callCcNn cc =>
    by_cases hc : condHolds cc s.regs.f
    · exact .inl ⟨_, if_pos hc⟩
    · exact .inl ⟨_, if_neg hc⟩
  | djnz =>
    by_cases hb : s.regs.b - 1 = 0
    · exact .inl ⟨_, if_pos hb⟩
    · exact .inl ⟨_, if_neg hb⟩
  | _ => exact .inl ⟨_, rfl⟩

end Sys2Proof.Machine

/-! SUPPORT. What a step can be (R170), and what every kind of step keeps: memory below ROM_LIMIT, the invariant, R[7], time,
and that the run faults for its causes only (R37, R84, R98, R174, R178, R501). -/

namespace Sys2Proof.Machine

/-! ## Sequences of instruction steps -/

/-- One instruction step of a core that is not halted. -/
def Runs (s t : State) : Prop := s.halted = false ∧ instructionStep s = .next t

/-- Any number of instruction steps of a core that is not halted. -/
def Reaches : State → State → Prop := Relation.ReflTransGen Runs

/-- What each such instruction step keeps, all of them keep. -/
theorem Reaches.induction {P : State → Prop} (hstep : ∀ s t, P s → Runs s t → P t) {s t : State} (h : Reaches s t)
    (hs : P s) : P t := by
  induction h with
  | refl => exact hs
  | tail _ hr ih => exact hstep _ _ ih hr

theorem iterateFrom_reaches {len : Nat} {l : Word} {n : Nat} {s u : State} (hh : s.halted = false)
    (h : iterateFrom len l n s = some u) : Relation.TransGen Runs s u := by
  induction n generalizing s with
  | zero => cases h
  | succ n ih =>
    obtain ⟨s1, he, ⟨-, rfl⟩ | ⟨-, -, hh1, hr⟩⟩ := iterateFrom_cases h
    · exact .single ⟨hh, he⟩
    · exact .head ⟨hh, he⟩ (ih hh1 hr)

theorem iteration_reaches {a : Accelerator} {s u : State} (h : iteration a s = some u) : Relation.TransGen Runs s u := by
  unfold iteration at h
  split at h
  · cases h
  · rename_i hh
    exact iterateFrom_reaches (by simpa using hh) h

theorem loopIterations_reaches {a : Accelerator} {n : Nat} {s u : State} (h : loopIterations a n s = some u) :
    Reaches s u := by
  induction n generalizing s with
  | zero =>
    simp only [loopIterations] at h
    split at h
    · cases h
    · cases h; exact .refl
  | succ n ih =>
    simp only [loopIterations] at h
    split at h
    · exact (iteration_reaches ‹_›).to_reflTransGen.trans (ih h)
    · cases h; exact .refl

/-! ## The kinds of step (R170) -/

/-- What an accelerator step can be (R461, R462). -/
theorem acceleratorStep_cases {tape : Tape} {nmi : Bool} {s : State} {r : Result}
    (h : acceleratorStep tape nmi s = some r) :
    s.iff1 = false ∧
    (r = .fault (.unexpectedEndOfTape s.pc s.t) ∨
     ∃ u, Reaches s u ∧ r = .next { u with trace := { s.trace with record := none } }) := by
  unfold acceleratorStep at h
  split at h
  · cases h
  · rename_i hc
    refine ⟨by simp_all, ?_⟩
    split at h
    · cases h
    · split at h
      · cases h
      · dsimp only at h
        split at h
        · exact .inl (by simpa using h.symm)
        · split at h
          · exact .inl (by simpa using h.symm)
          · exact .inr ⟨_, loopIterations_reaches ‹_›, by simpa using h.symm⟩

/-- What a trap step can be (R471 to R473). -/
theorem trapStep_cases (tape : Tape) (s : State) :
    trapStep tape s = .fault (.unexpectedEndOfTape s.pc s.t) ∨
    ∃ b dataEnd ws, trapChoice tape s = (ws, some (b, dataEnd)) ∧
      trapStep tape s = .next { loadBlock b dataEnd s with warnings := s.warnings ++ ws } := by
  unfold trapStep
  split
  · exact .inl rfl
  · exact .inr ⟨_, _, _, ‹_›, rfl⟩

/-- What a fast-load step can be: it needs a tape. -/
theorem fastLoadStep_cases {nmi : Bool} {s : State} {r : Result} (h : fastLoadStep nmi s = some r) :
    s.tape.isSome = true ∧
    (r = .fault (.unexpectedEndOfTape s.pc s.t) ∨
     (∃ b dataEnd ws, trapTaken s = true ∧ r = .next { loadBlock b dataEnd s with warnings := s.warnings ++ ws }) ∨
     (s.iff1 = false ∧ ∃ u, Reaches s u ∧ r = .next { u with trace := { s.trace with record := none } })) := by
  unfold fastLoadStep at h
  split at h
  · cases h
  · rename_i tape htape
    refine ⟨by simp [htape], ?_⟩
    split at h
    · obtain rfl : trapStep tape s = r := by simpa using h
      obtain hf | ⟨b, dataEnd, ws, -, hn⟩ := trapStep_cases tape s
      · exact .inl hf
      · exact .inr (.inl ⟨b, dataEnd, ws, ‹_›, hn⟩)
    · obtain ⟨hiff, hf | ⟨u, hu, hn⟩⟩ := acceleratorStep_cases h
      · exact .inl hf
      · exact .inr (.inr ⟨hiff, u, hu, hn⟩)

/-- The kinds of step that complete. -/
inductive Step (s : State) : State → Prop
  | loadStop : loadStopHolds s = true → Step s { s with runStatus := .stopped }
  | nmi : Step s s.nextBoundary.enterNmi
  | int : Step s (s.nextBoundary.enterInt s.params.intBusByte)
  | trap (b : DataBlock) (dataEnd : Nat) (ws : List Warning) : s.tape.isSome = true → trapTaken s = true →
      Step s { loadBlock b dataEnd s.nextBoundary with warnings := s.warnings ++ ws }
  | accelerator {u} : s.tape.isSome = true → s.iff1 = false → Reaches s.nextBoundary u →
      Step s { u with trace := { s.trace with record := none } }
  | haltedIdle : s.halted = true → Step s s.nextBoundary.haltedIdle
  | instruction {t} : Runs s.nextBoundary t → Step s t

/-- A step that completes is of one of the kinds. -/
theorem step_kind {s t : State} (h : step s = .next t) : s.runStatus = .running ∧ Step s t := by
  obtain ⟨hr, ⟨hl, rfl⟩ | ⟨-, hb⟩⟩ := step_cases h
  · exact ⟨hr, .loadStop hl⟩
  refine ⟨hr, ?_⟩
  obtain ⟨-, hk⟩ | ⟨-, -, hk⟩ | ⟨-, -, ⟨r, hf, hk⟩ | ⟨-, hh, hk⟩ | ⟨-, hh, hk⟩⟩ := boundaryStep_cases s <;>
    rw [hk] at hb
  · cases hb; exact .nmi
  · unfold acceptInt at hb
    dsimp only at hb
    split at hb
    · cases hb
    · cases hb; exact .int
  · obtain ⟨ht, rfl | ⟨b, dataEnd, ws, htrap, rfl⟩ | ⟨hiff, u, hu, rfl⟩⟩ := fastLoadStep_cases hf <;> cases hb
    · exact .trap b dataEnd ws ht htrap
    · exact .accelerator ht hiff hu
  · cases hb; exact .haltedIdle hh
  · exact .instruction ⟨hh, hb⟩

/-! ## Memory below ROM_LIMIT (R84, R98) -/

theorem keepsRom_push (s : State) (v : Word) : KeepsRom s (s.push v) :=
  ((keepsRom_write s _ _).trans (keepsRom_write _ _ _)).trans (.of_eq (by simp) (s.push_mem v))

theorem enterHandler_keepsRom (s : State) (target : State → Word) (cost : Nat) : KeepsRom s (s.enterHandler target cost) := by
  have hleave : KeepsRom s (s.leaveHalt.rInc 1) := .of_eq (by simp) (by simp)
  exact (hleave.trans (keepsRom_push _ s.leaveHalt.pc)).trans (.of_eq rfl (s.enterHandler_mem target cost))

theorem enterInt_keepsRom (s : State) (bus : Byte) : KeepsRom s (s.enterInt bus) := by
  have hclear : KeepsRom s { s with iff1 := false, iff2 := false } := .of_eq rfl rfl
  rw [State.enterInt_eq]
  split <;> exact hclear.trans (enterHandler_keepsRom _ _ _)

theorem loadBytes_keepsRom (data : List Byte) (ix : Word) (n : Nat) (s : State) : KeepsRom s (loadBytes data ix n s) := by
  induction n with
  | zero => exact .refl s
  | succ n ih => exact ih.trans (keepsRom_write _ _ _)

theorem loadBlock_keepsRom (b : DataBlock) (dataEnd : Nat) (s : State) : KeepsRom s (loadBlock b dataEnd s) :=
  (loadBytes_keepsRom b.data s.regs.ix s.de.toNat s).trans (.of_eq rfl rfl)

theorem exec_params {i : Instr} {s t : State} (h : exec i s = .next t) : t.params = s.params := by
  obtain ⟨-, -, -, -, -, -, -, -, hparams, -⟩ := eachControlRegisterHasItsWriters i s t h
  exact hparams

theorem exec_keepsRom {i : Instr} {s t : State} (h : exec i s = .next t) : KeepsRom s t :=
  (applyWrites_keepsRom s (dataAccesses i s)).trans
    (.of_eq ((exec_params h).trans (applyWrites_keepsRom s _).1.symm) (exec_next_mem h))

theorem instructionStep_keepsRom {s t : State} (h : instructionStep s = .next t) : KeepsRom s t := by
  obtain ⟨u, hu, rfl⟩ := instructionStep_next h
  have hfetch : KeepsRom s (s.afterFetch s.fetched) := .of_eq (by simp) (by simp)
  exact (hfetch.trans (exec_keepsRom hu)).trans (.of_eq (by simp) (by simp))

theorem reaches_keepsRom {s t : State} (h : Reaches s t) : KeepsRom s t :=
  h.induction (P := KeepsRom s) (fun _ _ hk hr => hk.trans (instructionStep_keepsRom hr.2)) (.refl s)

theorem step_keepsRom {s t : State} (h : Step s t) : KeepsRom s t := by
  have hnext : KeepsRom s s.nextBoundary := .of_eq rfl rfl
  cases h with
  | loadStop => exact .of_eq rfl rfl
  | nmi =>
    have hclear : KeepsRom s { s.nextBoundary with iff1 := false } := .of_eq rfl rfl
    exact hclear.trans (enterHandler_keepsRom _ _ _)
  | int => exact hnext.trans (enterInt_keepsRom _ _)
  | trap b dataEnd => exact (hnext.trans (loadBlock_keepsRom b dataEnd _)).trans (.of_eq rfl rfl)
  | accelerator _ _ hu => exact (hnext.trans (reaches_keepsRom hu)).trans (.of_eq rfl rfl)
  | haltedIdle => exact .of_eq (by simp [State.haltedIdle]) (by simp [State.haltedIdle])
  | instruction hr => exact hnext.trans (instructionStep_keepsRom hr.2)

/-- Settles O8: every kind of step is made of stores that ROM_LIMIT stops, by `step_keepsRom`. -/
theorem noStepChangesRom : Obligations.NoStepChangesRom := by
  unfold Obligations.NoStepChangesRom
  intro s t a h ha
  obtain ⟨-, hk⟩ := step_kind h
  exact (step_keepsRom hk).2 a ha

/-! ## The invariant -/

/-- Settles O45: each clause is about a field of the reset state. -/
theorem resetMeetsTheInvariant : Obligations.ResetMeetsTheInvariant where
  memWf := rfl
  noStopPending := rfl
  haltedAtHalt := nofun
  enabledAfterEi := nofun

theorem inv_nextBoundary {s : State} (h : Inv s) : Inv s.nextBoundary :=
  ⟨h.memWf, h.noStopPending, h.haltedAtHalt, h.enabledAfterEi⟩

/-- With the core running and nothing blocked the invariant is about memory and the Tracer only. -/
theorem inv_of_running {s : State} (hmem : s.mem.wf = true) (hstop : s.trace.stopPending = false)
    (hhalted : s.halted = false) (hblocked : s.intBlocked = .none) : Inv s where
  memWf := hmem
  noStopPending := hstop
  haltedAtHalt := by simp [hhalted]
  enabledAfterEi := by simp [hblocked]

theorem enterHandler_inv {s : State} (target : State → Word) (cost : Nat) (hmem : s.mem.wf = true)
    (hstop : s.trace.stopPending = false) : Inv (s.enterHandler target cost) :=
  inv_of_running (State.enterHandler_wf s target cost hmem) (by simpa [State.enterHandler] using hstop)
    (by simp [State.enterHandler]) rfl

theorem enterInt_inv {s : State} (bus : Byte) (h : Inv s) : Inv (s.enterInt bus) := by
  rw [State.enterInt_eq]
  split <;> exact enterHandler_inv _ _ h.memWf h.noStopPending

theorem loadBytes_wf {data : List Byte} {ix : Word} {n : Nat} {s : State} (h : s.mem.wf = true) :
    (loadBytes data ix n s).mem.wf = true := by
  induction n with
  | zero => exact h
  | succ n ih => exact State.write_wf _ _ _ ih

theorem loadBytes_eq (data : List Byte) (ix : Word) (n : Nat) (s : State) :
    loadBytes data ix n s = { s with mem := (loadBytes data ix n s).mem } := by
  induction n with
  | zero => rfl
  | succ n ih => rw [loadBytes, State.write_eq, ih]

theorem loadBlock_inv {b : DataBlock} {dataEnd : Nat} {s : State} (h : Inv s) (hh : s.halted = false) :
    Inv (loadBlock b dataEnd s) :=
  inv_of_running (loadBytes_wf h.memWf)
    (by rw [loadBlock, loadBytes_eq]; exact h.noStopPending) (by rw [loadBlock, loadBytes_eq]; exact hh) rfl

theorem exec_halted {i : Instr} {s t : State} (h : exec i s = .next t) (hi : i ≠ .halt) : t.halted = s.halted := by
  obtain ⟨-, -, -, -, -, -, hhalted, -⟩ := eachControlRegisterHasItsWriters i s t h
  exact hhalted hi

theorem fetched_begins (s : State) :
    Begins s.fetched [s.read s.pc, s.read (s.pc + 1), s.read (s.pc + 2), s.read (s.pc + 3)] :=
  decode4_begins ..

/-- A fetched HALT is the byte 0x76 at PC. -/
theorem read_pc_of_halt {s : State} (h : s.fetched = .halt) : s.read s.pc = 0x76 := by
  obtain ⟨-, henc⟩ := fetched_begins s
  rw [h] at henc
  exact (List.cons.inj henc).1.symm

/-- A core that halts stands at its HALT. -/
theorem instructionStep_halted {s t : State} (h : Runs s t) (ht : t.halted = true) :
    t.read t.pc = 0x76 ∧ t.intBlocked = .none := by
  obtain ⟨hh, h⟩ := h
  obtain ⟨u, hu, rfl⟩ := instructionStep_next h
  have hi : s.fetched = .halt := by
    by_contra hi
    have := exec_halted hu hi
    simp_all
  rw [hi] at hu
  cases hu
  refine ⟨?_, by simp⟩
  have hpc : s.pc + 1 - 1 = s.pc := by bv_omega
  rw [← read_pc_of_halt hi, State.recorded_pc, State.read_congr (s := s) (by simp)]
  exact congrArg s.read hpc

theorem instructionStep_enabledAfterEi {s t : State} (h : instructionStep s = .next t) (ht : t.intBlocked = .afterEi) :
    t.iff1 = true ∧ t.iff2 = true := by
  by_cases hei : s.fetched = .ei
  · obtain ⟨u, hu, rfl⟩ := instructionStep_next h
    rw [hei] at hu
    cases hu
    simp
  · by_cases hp : ∃ x b, s.fetched = .ignoredPrefix x b
    · obtain ⟨x, b, hp⟩ := hp
      simp [instructionStep_ignoredPrefix h hp] at ht
    · simp [instructionStep_other h hei (by simpa using hp)] at ht

theorem runs_inv {s t : State} (hi : Inv s) (h : Runs s t) : Inv t where
  memWf := by
    obtain ⟨u, hu, rfl⟩ := instructionStep_next h.2
    simpa using exec_wf hu hi.memWf
  noStopPending := by
    obtain ⟨u, -, rfl⟩ := instructionStep_next h.2
    exact State.recorded_stopPending _ _
  haltedAtHalt := instructionStep_halted h
  enabledAfterEi := instructionStep_enabledAfterEi h.2

theorem haltedIdle_inv {s : State} (h : Inv s) (hh : s.halted = true) : Inv s.haltedIdle where
  memWf := by simpa [State.haltedIdle] using h.memWf
  noStopPending := State.recorded_stopPending _ _
  haltedAtHalt _ := by
    rw [State.read_congr (s := s) (by simp [State.haltedIdle])]
    simpa [State.haltedIdle] using (h.haltedAtHalt hh).1
  enabledAfterEi := by simp [State.haltedIdle]

/-- Settles O46: each kind of step keeps the invariant; an accelerator step does because each of its instructions does. -/
theorem everyStepKeepsTheInvariant : Obligations.EveryStepKeepsTheInvariant := by
  unfold Obligations.EveryStepKeepsTheInvariant
  intro s t hi h
  have hi' := inv_nextBoundary hi
  obtain ⟨-, hk⟩ := step_kind h
  cases hk with
  | loadStop => exact ⟨hi.memWf, hi.noStopPending, hi.haltedAtHalt, hi.enabledAfterEi⟩
  | nmi => exact enterHandler_inv _ _ hi.memWf hi.noStopPending
  | int => exact enterInt_inv _ hi'
  | trap b dataEnd _ _ htrap =>
    have hh : s.halted = false := by simp_all [trapTaken]
    have hl := loadBlock_inv (b := b) (dataEnd := dataEnd) hi' hh
    exact ⟨hl.memWf, hl.noStopPending, hl.haltedAtHalt, hl.enabledAfterEi⟩
  | accelerator _ _ hu =>
    have hiu := hu.induction (P := Inv) (fun _ _ => runs_inv) hi'
    exact ⟨hiu.memWf, hi.noStopPending, hiu.haltedAtHalt, hiu.enabledAfterEi⟩
  | haltedIdle hh => exact haltedIdle_inv hi' hh
  | instruction hr => exact runs_inv hi' hr

end Sys2Proof.Machine

/-! SUPPORT. R[7] and T over every kind of step, the causes of a fault, and each step at a boundary as an equation
(R37, R54, R170 to R178, R477, R501). -/

namespace Sys2Proof.Machine

/-! ## R[7] (R37) -/

/-- Counting M1 fetches keeps R[7]. -/
theorem State.rInc_r_bit7 (s : State) (n : Nat) : (s.rInc n).r.getLsbD 7 = s.r.getLsbD 7 := by
  have hr := s.r.isLt
  simp only [BitVec.getLsbD, Nat.testBit_eq_decide_div_mod_eq, State.rInc_r_toNat]
  congr 2
  omega

theorem exec_r {i : Instr} {s t : State} (h : exec i s = .next t) (hi : i ≠ .ldRA) : t.r = s.r := by
  obtain ⟨-, hr, -⟩ := eachControlRegisterHasItsWriters i s t h
  exact hr hi

theorem instructionStep_r_bit7 {s t : State} (h : instructionStep s = .next t) (hi : s.fetched ≠ .ldRA) :
    t.r.getLsbD 7 = s.r.getLsbD 7 := by
  obtain ⟨u, hu, rfl⟩ := instructionStep_next h
  rw [State.recorded_r, exec_r hu hi]
  exact s.rInc_r_bit7 _

theorem enterHandler_r (s : State) (target : State → Word) (cost : Nat) : (s.enterHandler target cost).r = (s.rInc 1).r := by
  simp [State.enterHandler]

/-- Settles O48: outside a tape load only acceptances, idle steps and instructions are left, and each counts R by `rInc`. -/
theorem refreshTopBitChangesOnlyByLoad : Obligations.RefreshTopBitChangesOnlyByLoad := by
  unfold Obligations.RefreshTopBitChangesOnlyByLoad
  intro s t htape h hi
  obtain ⟨-, hk⟩ := step_kind h
  cases hk with
  | loadStop => rfl
  | nmi => rw [State.enterNmi, enterHandler_r]; exact State.rInc_r_bit7 _ 1
  | int => rw [State.enterInt_eq]; split <;> rw [enterHandler_r] <;> exact State.rInc_r_bit7 _ 1
  | trap _ _ _ ht => simp [htape] at ht
  | accelerator ht => simp [htape] at ht
  | haltedIdle => rw [State.haltedIdle, State.recorded_r]; exact s.nextBoundary.rInc_r_bit7 1
  | instruction hr => exact instructionStep_r_bit7 (s := s.nextBoundary) hr.2 hi

/-! ## Time (R54, R174) -/

theorem enterHandler_t (s : State) (target : State → Word) (cost : Nat) : (s.enterHandler target cost).t = s.t + cost := by
  simp [State.enterHandler]

theorem instructionStep_t {s t : State} (h : instructionStep s = .next t) : s.t + 4 ≤ t.t ∧ t.t ≤ s.t + 23 := by
  obtain ⟨u, hu, rfl⟩ := instructionStep_next h
  have ht := exec_takesTime s.fetched (s.afterFetch s.fetched)
  rw [hu] at ht
  simpa [TakesTime] using ht

theorem reaches_t {s t : State} (h : Reaches s t) : s.t ≤ t.t :=
  h.induction (P := fun u => s.t ≤ u.t)
    (fun _ _ hle hr => by have := instructionStep_t hr.2; omega) le_rfl

theorem enterNmi_t (s : State) : s.enterNmi.t = s.t + 11 := enterHandler_t _ _ _

theorem enterInt_t (s : State) (bus : Byte) : (s.enterInt bus).t = s.t + if s.im = .im2 then 19 else 13 := by
  rw [State.enterInt_eq]
  split <;> rename_i hm <;> rw [enterHandler_t, hm] <;> rfl

/-- Settles O49: each kind of step by its own cost; only a load's steps take other times than an instruction can. -/
theorem timeOnlyAdvances : Obligations.TimeOnlyAdvances := by
  unfold Obligations.TimeOnlyAdvances
  intro s t h
  obtain ⟨-, hk⟩ := step_kind h
  cases hk with
  | loadStop hl => exact ⟨le_rfl, fun ht => by simp [loadStopHolds, ht] at hl⟩
  | nmi =>
    have := enterNmi_t s.nextBoundary
    rw [State.nextBoundary_t] at this
    omega
  | int =>
    have := enterInt_t s.nextBoundary s.params.intBusByte
    rw [State.nextBoundary_t] at this
    split at this <;> omega
  | trap b dataEnd _ ht =>
    have hle : s.t ≤ max s.t dataEnd := le_max_left _ _
    exact ⟨hle, fun hn => by simp [hn] at ht⟩
  | accelerator ht _ hu =>
    have hle := reaches_t hu
    rw [State.nextBoundary_t] at hle
    exact ⟨hle, fun hn => by simp [hn] at ht⟩
  | haltedIdle =>
    have : s.nextBoundary.haltedIdle.t = s.t + 4 := by simp [State.haltedIdle]
    omega
  | instruction hr =>
    have := instructionStep_t hr.2
    rw [State.nextBoundary_t] at this
    omega

/-! ## Each step at a boundary, as an equation (R170) -/

theorem step_eq_boundaryStep {s : State} (hr : s.runStatus = .running) (hl : loadStopHolds s = false) :
    step s = boundaryStep s := by
  simp [step, hr, hl]

theorem loadStopHolds_of_no_tape {s : State} (h : s.tape = none) : loadStopHolds s = false := by simp [loadStopHolds, h]

theorem NoAcceptance.nmiTaken {s : State} (h : NoAcceptance s) : nmiTaken s = false := by
  obtain hn | hb := h.noNmi
  · simp [Machine.nmiTaken, hn]
  · exact nmiTaken_of_afterPrefix hb

theorem NoAcceptance.intTaken {s : State} (h : NoAcceptance s) : intTaken s = false := by
  obtain hn | hi | hb := h.noInt
  · simp [Machine.intTaken, hn]
  · simp [Machine.intTaken, hi]
  · exact intTaken_of_blocked hb

/-- With no acceptance the step is the fast-load step, or else the idle step or an instruction. -/
theorem boundaryStep_of_noAcceptance {s : State} (h : NoAcceptance s) : boundaryStep s =
    (fastLoadStep s.nmiRequest s.nextBoundary).getD
      (if s.halted then .next s.nextBoundary.haltedIdle else instructionStep s.nextBoundary) := by
  simp only [boundaryStep, h.nmiTaken, h.intTaken, Bool.false_eq_true, if_false]
  cases fastLoadStep s.nmiRequest s.nextBoundary <;> rfl

theorem fastLoadStep_of_no_tape {nmi : Bool} {s : State} (h : s.tape = none) : fastLoadStep nmi s = none := by
  simp [fastLoadStep, h]

/-- A halted core takes no fast-load step (R461, R470). -/
theorem fastLoadStep_of_halted {nmi : Bool} {s : State} (h : s.halted = true) : fastLoadStep nmi s = none := by
  unfold fastLoadStep
  split
  · rfl
  · simp [trapTaken, acceleratorStep, h]

/-- With FAST_LOAD off and no accelerator selected there is no fast-load step (R478). -/
theorem fastLoadStep_of_off {nmi : Bool} {s : State} (hf : s.params.fastLoad = false) (hs : s.params.selection = .none) :
    fastLoadStep nmi s = none := by
  unfold fastLoadStep
  split
  · rfl
  · simp [trapTaken, acceleratorStep, activeAccelerator, selected, hf, hs]

theorem State.bytesAt_congr {s t : State} (h : t.mem = s.mem) (a : Word) (n : Nat) : t.bytesAt a n = s.bytesAt a n := by
  induction n generalizing a with
  | zero => rfl
  | succ n ih => rw [bytesAt, bytesAt, ih, read_congr h]

/-- Settles O38: with every other kind of step excluded, the step is the instruction step, whose parts these are. -/
theorem aStepRunsTheDecodedInstruction : Obligations.AStepRunsTheDecodedInstruction := by
  unfold Obligations.AStepRunsTheDecodedInstruction
  intro s i hr hh hna htape hdec
  have hload : loadStopHolds s = false := htape.elim loadStopHolds_of_no_tape (fun h => h.1)
  have hfast : fastLoadStep s.nmiRequest s.nextBoundary = none := by
    obtain ht | ⟨-, hf | ⟨hoff, hsel⟩⟩ := htape
    · exact fastLoadStep_of_no_tape ht
    · exact hf
    · exact fastLoadStep_of_off hoff hsel
  have hi : s.nextBoundary.fetched = i := by
    rw [decode_four] at hdec
    exact Except.ok.inj hdec
  rw [step_eq_boundaryStep hr hload, boundaryStep_of_noAcceptance hna, hfast, hh]
  simp only [Option.getD_none, Bool.false_eq_true, if_false, instructionStep, hi,
    State.bytesAt_congr s.nextBoundary_mem]
  rfl

theorem State.settle_eq (s : State) : s.settle = { s with
    runStatus := if s.trace.stopPending then .stopped else s.runStatus
    trace := { s.trace with stopPending := false } } := by
  unfold settle
  split
  · rfl
  · rename_i h
    have htrace : { s.trace with stopPending := false } = s.trace := by rw [← Bool.eq_false_of_not_eq_true h]
    rw [htrace]

theorem State.tracerCall_eq (s : State) (call : Nat) : s.tracerCall call = { s with
    env := { s.env with tracer := if s.tape.isNone then s.env.tracer.asked else s.env.tracer }
    trace := { s.trace with
      stopPending :=
        s.trace.stopPending || (s.tape.isNone && s.env.tracer.holds s (Config.freeStop s.env.boundary call)) } } := by
  unfold tracerCall
  split
  · have hn : s.tape.isNone = false := by simp [*]
    simp [hn]
  · have hn : s.tape.isNone = true := by simp [*]
    simp [hn]

/-- The end of a step (R176): the Tracer's answer, or one left over, ends the run where it is stop. -/
theorem State.tracerCall_settle (u : State) (call : Nat) :
    let stop := u.trace.stopPending || (u.tape.isNone && u.env.tracer.holds u (Config.freeStop u.env.boundary call))
    (u.tracerCall call).settle = { u with
      runStatus := if stop then .stopped else u.runStatus
      env := { u.env with tracer := if u.tape.isNone then u.env.tracer.asked else u.env.tracer }
      trace := { u.trace with stopPending := false } } := by
  rw [tracerCall_eq, settle_eq]

/-- Settles O40: a halted core takes the idle step and no fast-load step, which `tracerCall_settle` ends. -/
theorem haltedIdleStepOnlyCounts : Obligations.HaltedIdleStepOnlyCounts := by
  unfold Obligations.HaltedIdleStepOnlyCounts
  intro s hr htape hh hna
  have hload : loadStopHolds s = false := htape.elim loadStopHolds_of_no_tape id
  have hfast : fastLoadStep s.nmiRequest s.nextBoundary = none := fastLoadStep_of_halted hh
  refine ⟨?step, ?accesses⟩
  case step =>
    rw [step_eq_boundaryStep hr hload, boundaryStep_of_noAcceptance hna, hfast, hh]
    have hend := State.tracerCall_settle { s.nextBoundary with
      r := (s.rInc 1).r, intBlocked := .none, t := s.t + 4
      trace := { s.trace with record := some { addr := s.pc, bytes := [0x76], cost := 4 } } } 1
    rw [show s.nextBoundary.runStatus = .running from hr] at hend
    exact congrArg Host.Outcome.next hend
  case accesses => simp [stepAccesses, hr, hload, hna.nmiTaken, hna.intTaken, hfast, hh]

/-! ## Faults (R178, R501) -/

/-- An instruction step completes, or is E1 with the ED opcode at PC. -/
theorem instructionStep_cases (s : State) :
    (∃ t, instructionStep s = .next t) ∨
    (s.params.edUndefined = .fault ∧ s.read s.pc = 0xED ∧
      instructionStep s = .fault (.undefinedOpcode s.pc (s.read (s.pc + 1)))) := by
  obtain ⟨u, hu⟩ | ⟨hed, hl, op, henc, hf⟩ := exec_cases s.fetched (s.afterFetch s.fetched)
  · exact .inl ⟨_, by simp [instructionStep, hu]; rfl⟩
  · obtain ⟨-, hbegin⟩ := fetched_begins s
    have hlen := encode_length s.fetched
    rw [henc] at hbegin hlen
    rw [← hlen] at hbegin
    obtain ⟨h0, h1, -⟩ : 0xED = s.read s.pc ∧ op = s.read (s.pc + 1) ∧ True := by simpa using hbegin
    have hpc : (s.afterFetch s.fetched).pc - 2 = s.pc := by
      rw [State.afterFetch_pc, hl]
      bv_omega
    refine .inr ⟨hed, h0.symm, ?_⟩
    simp only [instructionStep, hf, hpc, h1]

/-- A fast-load step completes or is E7. -/
theorem fastLoadStep_fault {nmi : Bool} {s : State} {f : Fault} (h : fastLoadStep nmi s = some (.fault f)) :
    f = .unexpectedEndOfTape s.pc s.t ∧ s.tape.isSome = true := by
  obtain ⟨htape, hf | ⟨_, _, _, -, hn⟩ | ⟨-, _, -, hn⟩⟩ := fastLoadStep_cases h
  · exact ⟨by simpa using hf, htape⟩
  · cases hn
  · cases hn

theorem fastLoadStep_not_refused {nmi : Bool} {s : State} {r : Refusal} : fastLoadStep nmi s ≠ some (.refused r) := by
  intro h
  obtain ⟨-, hf | ⟨_, _, _, -, hn⟩ | ⟨-, _, -, hn⟩⟩ := fastLoadStep_cases h
  · cases hf
  · cases hn
  · cases hn

/-- The causes of a fault of the step at a boundary, and that it is never refused. -/
theorem boundaryStep_result (s : State) :
    (∃ t, boundaryStep s = .next t) ∨
    (∃ f, boundaryStep s = .fault f ∧
      ((f = .undefinedOpcode s.pc (s.read (s.pc + 1)) ∧ s.params.edUndefined = .fault ∧ s.read s.pc = 0xED) ∨
       (f = .im0BusByte s.params.intBusByte s.pc ∧ s.im = .im0 ∧ s.iff1 = true ∧ s.params.intBusByte &&& 0xC7 ≠ 0xC7) ∨
       (f = .unexpectedEndOfTape s.pc s.t ∧ s.tape.isSome = true))) := by
  obtain ⟨-, hk⟩ | ⟨-, hi, hk⟩ | ⟨-, -, ⟨r, hf, hk⟩ | ⟨-, -, hk⟩ | ⟨-, -, hk⟩⟩ := boundaryStep_cases s <;> rw [hk]
  · exact .inl ⟨_, rfl⟩
  · unfold acceptInt
    dsimp only
    split
    · rename_i hc
      exact .inr ⟨_, rfl, .inr (.inl ⟨rfl, hc.1, by simp_all [intTaken], hc.2⟩)⟩
    · exact .inl ⟨_, rfl⟩
  · cases r with
    | next t => exact .inl ⟨t, rfl⟩
    | fault f => exact .inr ⟨f, rfl, .inr (.inr (fastLoadStep_fault (s := s.nextBoundary) hf))⟩
    | refused r => exact absurd hf fastLoadStep_not_refused
  · exact .inl ⟨_, rfl⟩
  · obtain ht | ⟨hed, hread, hf⟩ := instructionStep_cases s.nextBoundary
    · exact .inl ht
    · exact .inr ⟨_, hf, .inl ⟨rfl, hed, hread⟩⟩

theorem step_of_not_running {s : State} (h : s.runStatus ≠ .running) : step s = .refused .runOver := by
  unfold step
  split <;> simp_all

/-- Settles O50: the causes are those of `boundaryStep_result`, and only a run that is over is refused. -/
theorem faultsHaveTheThreeCauses : Obligations.FaultsHaveTheThreeCauses := by
  unfold Obligations.FaultsHaveTheThreeCauses
  have hrun (s : State) (h : s.runStatus = .running) : step s = .next { s with runStatus := .stopped } ∨
      step s = boundaryStep s := by
    cases hl : loadStopHolds s with
    | true => exact .inl (by simp [step, h, hl])
    | false => exact .inr (step_eq_boundaryStep h hl)
  refine ⟨fun s f hf => ?fault, fun s r => ⟨fun hr => ?refused, ?runOver⟩⟩
  case fault =>
    by_cases hs : s.runStatus = .running
    · obtain hn | hb := hrun s hs
      · simp [hn] at hf
      · obtain ⟨t, ht⟩ | ⟨g, hg, hcause⟩ := boundaryStep_result s
        · simp [hb, ht] at hf
        · obtain rfl : g = f := by simpa [hb, hg] using hf
          obtain ⟨hop, hed, hread⟩ | hcause := hcause
          · exact .inl ⟨_, hop, hed, hread, rfl⟩
          · exact .inr hcause
    · simp [step_of_not_running hs] at hf
  case refused =>
    by_cases hs : s.runStatus = .running
    · obtain hn | hb := hrun s hs
      · simp [hn] at hr
      · obtain ⟨t, ht⟩ | ⟨g, hg, -⟩ := boundaryStep_result s
        · simp [hb, ht] at hr
        · simp [hb, hg] at hr
    · exact ⟨by simpa [step_of_not_running hs, eq_comm] using hr, hs⟩
  case runOver =>
    rintro ⟨rfl, hs⟩
    exact step_of_not_running hs

/-! ## Runs without a fault (R139, R501) -/

theorem exec_runStatus {i : Instr} {s t : State} (h : exec i s = .next t) : t.runStatus = s.runStatus := by
  obtain ⟨-, -, -, -, -, -, -, -, -, hstatus, -⟩ := eachControlRegisterHasItsWriters i s t h
  exact hstatus

theorem exec_tape {i : Instr} {s t : State} (h : exec i s = .next t) : t.tape = s.tape := by
  obtain ⟨-, -, -, -, -, -, -, -, -, -, htape, -⟩ := eachControlRegisterHasItsWriters i s t h
  exact htape

theorem State.settle_runStatus {s : State} (h : s.runStatus = .running) (f : Fault) : s.settle.runStatus ≠ .faulted f := by
  rw [settle_eq, h]
  dsimp only
  split <;> simp

theorem State.recorded_not_faulted {s : State} (h : s.runStatus = .running) (rec : InsnRecord) (f : Fault) :
    (s.recorded rec).runStatus ≠ .faulted f :=
  settle_runStatus (by simpa using h) f

/-- Without a tape a step keeps the parameters and the absence of a tape, and ends the run in no fault. -/
theorem step_keepsFaultFree {s t : State} (hff : FaultFree s) (h : step s = .next t) :
    FaultFree t ∧ ∀ f, t.runStatus ≠ .faulted f := by
  obtain ⟨hr, hk⟩ := step_kind h
  have hparams : t.params = s.params := (step_keepsRom hk).1
  have hrest : t.tape = none ∧ ∀ f, t.runStatus ≠ .faulted f := by
    have htape := hff.noTape
    cases hk with
    | loadStop => exact ⟨htape, by simp⟩
    | nmi => exact ⟨by simp [State.enterNmi, State.enterHandler, htape], by simp [State.enterNmi, State.enterHandler, hr]⟩
    | int =>
      rw [State.enterInt_eq]
      split <;> exact ⟨by simp [State.enterHandler, htape], by simp [State.enterHandler, hr]⟩
    | trap _ _ _ ht => simp [htape] at ht
    | accelerator ht => simp [htape] at ht
    | haltedIdle =>
      refine ⟨by simp [State.haltedIdle, htape], fun f => ?_⟩
      rw [State.haltedIdle]
      exact State.recorded_not_faulted (by exact hr) _ f
    | instruction hrun =>
      obtain ⟨u, hu, rfl⟩ := instructionStep_next hrun.2
      exact ⟨by simpa [exec_tape hu] using htape, State.recorded_not_faulted (by simpa [exec_runStatus hu] using hr) _⟩
  exact ⟨⟨by rw [hparams]; exact hff.edNop, by rw [hparams]; exact hff.busRst, hrest.1⟩, hrest.2⟩

/-- With no cause of a fault a running run's step completes. -/
theorem completes_of_faultFree {s : State} (hr : s.runStatus = .running) (hff : FaultFree s) : Completes s := by
  have hb := step_eq_boundaryStep hr (loadStopHolds_of_no_tape hff.noTape)
  obtain ⟨t, ht⟩ | ⟨f, -, ⟨-, hed, -⟩ | ⟨-, -, -, hbus⟩ | ⟨-, htape⟩⟩ := boundaryStep_result s
  · exact ⟨t, hb.trans ht⟩
  · simp [hff.edNop] at hed
  · exact absurd hff.busRst hbus
  · simp [hff.noTape] at htape

theorem run_of_not_running {s : State} (h : s.runStatus ≠ .running) (n : Nat) : run n s = s := by
  cases n with
  | zero => rfl
  | succ n => simp [run, step_of_not_running h]

theorem run_not_faulted {s : State} (hff : FaultFree s) (hs : ∀ f, s.runStatus ≠ .faulted f) (n : Nat) (f : Fault) :
    (run n s).runStatus ≠ .faulted f := by
  induction n generalizing s with
  | zero => exact hs f
  | succ n ih =>
    by_cases hr : s.runStatus = .running
    · obtain ⟨t, ht⟩ := completes_of_faultFree hr hff
      obtain ⟨hfft, hst⟩ := step_keepsFaultFree hff ht
      simpa [run, ht] using ih hfft hst
    · rw [run_of_not_running hr]
      exact hs f

/-- Settles O51: a step from such a state completes, and the state it ends in is such a state again. -/
theorem noFaultWithoutACause : Obligations.NoFaultWithoutACause := by
  unfold Obligations.NoFaultWithoutACause
  intro s hr hff
  exact ⟨completes_of_faultFree hr hff, run_not_faulted hff (by simp [hr])⟩

/-! ## The load stop and the errors before a load's first step (R457, R476, R477) -/

theorem loadStopHolds_of_policy {s : State} {tape : Tape} (htape : s.tape = some tape)
    (h : match s.params.loadStop with
      | .start a => s.pc = a
      | .auto => tape.lastDataEnd s.params.tstatesPerMs ≤ s.t ∧ 0x4000 ≤ s.pc.toNat) : loadStopHolds s = true := by
  unfold loadStopHolds
  split at h <;> simp [*]

/-- Settles O58: the policy is `loadStopHolds`, a stopped run stays as it is, and `fastLoad` reports an error with the state it
was given. -/
theorem loadsStopAsSpecified : Obligations.LoadsStopAsSpecified := by
  unfold Obligations.LoadsStopAsSpecified
  refine ⟨fun s tape hr htape hpolicy => ?stop, fun kind container fuel s => ⟨?name, ?tape⟩⟩
  case stop =>
    have hstep : step s = .next { s with runStatus := .stopped } := by
      simp [step, hr, loadStopHolds_of_policy htape hpolicy]
    exact ⟨hstep, fun n => by rw [run, hstep]; exact run_of_not_running (by simp) n⟩
  case name =>
    intro names name hsel hfind
    simp [fastLoad, unresolvedName, hsel, hfind]
  case tape =>
    intro e hresolve hdec
    have hname : unresolvedName s.params = none := by
      unfold unresolvedName
      split
      · rfl
      · rfl
      · rename_i names hsel
        rw [List.find?_eq_none]
        intro n hn
        simpa [Option.isNone_iff_eq_none, ← Option.isSome_iff_ne_none] using hresolve names hsel n hn
    simp [fastLoad, hname, hdec]

end Sys2Proof.Machine

/-! SUPPORT. The acceptances as updates of named fields, and the return from a handler (R352, R512, R514 to R519). -/

namespace Sys2Proof.Machine

/-- The return address of an acceptance: past the HALT of a halted core. -/
def State.returnAddress (s : State) : Word := if s.halted then s.pc + 1 else s.pc

theorem State.push_mem_congr {s u : State} (hr : u.regs = s.regs) (hm : u.mem = s.mem) (hp : u.params = s.params)
    (v : Word) : (u.push v).mem = (s.push v).mem := by
  rw [push_mem, push_mem, hr]
  exact write_mem_congr (write_mem_congr hm hp _ _) (by simpa using hp) _ _

theorem enterHandler_mem_push (s : State) (target : State → Word) (cost : Nat) :
    (s.enterHandler target cost).mem = (s.push s.returnAddress).mem := by
  rw [State.enterHandler_mem, State.leaveHalt_pc]
  exact State.push_mem_congr (by simp) (by simp) (by simp) _

/-- An acceptance as an update of named fields (R512, R515). -/
theorem enterHandler_eq (s : State) (target : State → Word) (cost : Nat) :
    let t := s.enterHandler target cost
    t = { s with
      regs := { s.regs with sp := s.regs.sp - 2 }
      halted := false, r := (s.rInc 1).r, intBlocked := .none, pc := t.pc, memptr := t.pc, mem := t.mem
      trace := { s.trace with record := none }, t := s.t + cost } := by
  intro t
  have ht : t = s.enterHandler target cost := rfl
  rw [ht, State.enterHandler, State.push_eq]
  cases hh : s.halted <;> simp [State.leaveHalt, hh, State.rInc]

theorem enterHandler_storesWord {s : State} (target : State → Word) (cost : Nat) (hw : s.mem.wf = true) :
    StoresWord s (s.enterHandler target cost) (s.regs.sp - 2) s.returnAddress :=
  storesWord_of_push hw (enterHandler_mem_push s target cost)

theorem enterNmi_eq (s : State) : s.enterNmi = { s with
    regs := { s.regs with sp := s.regs.sp - 2 }
    iff1 := false, halted := false, r := (s.rInc 1).r, intBlocked := .none, pc := 0x0066, memptr := 0x0066
    mem := s.enterNmi.mem, trace := { s.trace with record := none }, t := s.t + 11 } :=
  enterHandler_eq { s with iff1 := false } _ 11

theorem enterNmi_storesWord {s : State} (hw : s.mem.wf = true) :
    StoresWord s s.enterNmi (s.regs.sp - 2) s.returnAddress :=
  enterHandler_storesWord (s := { s with iff1 := false }) _ 11 hw

/-- Settles O42: with an NMI requested and not blocked the step is `enterNmi`. -/
theorem nonMaskableInterruptEntry : Obligations.NonMaskableInterruptEntry := by
  unfold Obligations.NonMaskableInterruptEntry
  intro s hw hr hl hnmi hblocked
  have hnt : nmiTaken s = true := (nmiTaken_of_not_afterPrefix hblocked).trans hnmi
  have hstep : step s = .next s.nextBoundary.enterNmi := by
    simp [step_eq_boundaryStep hr hl, boundaryStep, hnt]
  refine ⟨_, hstep, enterNmi_eq s.nextBoundary, enterNmi_storesWord (s := s.nextBoundary) hw, ?_⟩
  simp [stepAccesses, hr, hl, hnt]

/-- The maskable acceptance is one acceptance with both flip-flops cleared; only the handler and the cost depend on IM. -/
theorem enterInt_enterHandler (s : State) (bus : Byte) : ∃ target, s.enterInt bus =
    ({ s with iff1 := false, iff2 := false } : State).enterHandler target (if s.im = .im2 then 19 else 13) := by
  rw [State.enterInt_eq]
  cases s.im <;> exact ⟨_, rfl⟩

theorem enterInt_fields (s : State) (bus : Byte) :
    let t := s.enterInt bus
    t = { s with
      regs := { s.regs with sp := s.regs.sp - 2 }
      iff1 := false, iff2 := false, halted := false, r := (s.rInc 1).r, intBlocked := .none
      pc := t.pc, memptr := t.pc, mem := t.mem, trace := { s.trace with record := none }
      t := s.t + (if s.im = .im2 then 19 else 13) } := by
  obtain ⟨target, h⟩ := enterInt_enterHandler s bus
  rw [h]
  exact enterHandler_eq { s with iff1 := false, iff2 := false } target _

/-- Where a maskable acceptance goes; the vector of mode 2 is read after the push (R512). -/
theorem enterInt_pc (s : State) (bus : Byte) : (s.enterInt bus).pc =
    match s.im with
    | .im0 => (bus &&& 0x38).setWidth 16
    | .im1 => 0x0038
    | .im2 => wordOf ((s.enterInt bus).read (wordOf s.i bus + 1)) ((s.enterInt bus).read (wordOf s.i bus)) := by
  rw [State.enterInt_eq]
  cases s.im with
  | im0 => rfl
  | im1 => rfl
  | im2 => simp [State.enterHandler, State.read16, State.read]

theorem enterInt_storesWord {s : State} (bus : Byte) (hw : s.mem.wf = true) :
    StoresWord s (s.enterInt bus) (s.regs.sp - 2) s.returnAddress := by
  obtain ⟨target, h⟩ := enterInt_enterHandler s bus
  rw [h]
  exact enterHandler_storesWord (s := { s with iff1 := false, iff2 := false }) target _ hw

/-- Settles O41: with an INT requested, enabled and not blocked, and no NMI, the step is `acceptInt`. -/
theorem maskableInterruptEntry : Obligations.MaskableInterruptEntry := by
  unfold Obligations.MaskableInterruptEntry
  intro s hw hr hl hnmi hint hiff hblocked bus back
  have hnt : nmiTaken s = false := by simp [nmiTaken, hnmi]
  have hit : intTaken s = true := by simp [intTaken, hint, hiff, hblocked]
  have hstep : step s = acceptInt s.nextBoundary := by
    simp [step_eq_boundaryStep hr hl, boundaryStep, hnt, hit]
  refine ⟨fun him hbus => ?fault, fun hok => ?entry, fun hok => ?accesses⟩
  case fault =>
    rw [hstep]
    exact if_pos ⟨him, hbus⟩
  case entry =>
    have hnext : acceptInt s.nextBoundary = .next (s.nextBoundary.enterInt bus) :=
      if_neg (fun h => h.2 (hok h.1))
    exact ⟨_, hstep.trans hnext, enterInt_fields s.nextBoundary bus, enterInt_storesWord (s := s.nextBoundary) bus hw,
      enterInt_pc s.nextBoundary bus⟩
  case accesses =>
    have hacc : stepAccesses s = intAccesses s := by simp [stepAccesses, hr, hl, hnt, hit]
    rw [hacc, intAccesses, State.leaveHalt_pc]
    cases him : s.im with
    | im0 =>
      dsimp only
      rw [if_neg (not_not.mpr (hok him))]
      simp [back]
    | im1 => simp [back]
    | im2 => simp [bus, back]

/-- Settles O43: the word RETN pops is the return address the acceptance stored, where the stack is writable. -/
theorem retnComesBackFromNmi : Obligations.RetnComesBackFromNmi := by
  unfold Obligations.RetnComesBackFromNmi
  intro s y hw hrom1 hrom2
  have hsp : s.regs.sp - 2 + 1 = s.regs.sp - 1 := by bv_omega
  obtain ⟨hlo, hhi, -⟩ := enterNmi_storesWord hw
  rw [if_neg (by omega)] at hlo
  rw [hsp, if_neg (by omega)] at hhi
  have hpop : s.enterNmi.popped = s.returnAddress := by
    have hnmi : s.enterNmi.regs.sp = s.regs.sp - 2 := by rw [enterNmi_eq]
    rw [State.popped, State.read16, hnmi, hsp, hhi, hlo, wordOf_hiOf_loOf]
  have hregs : s.enterNmi.afterPop.regs = s.regs := by
    rw [State.afterPop_regs, enterNmi_eq]
    simp
  refine ⟨_, rfl, hregs, ?_, ?_, ?_, hpop, ?_⟩ <;> rw [enterNmi_eq] <;> simp [State.returnFromHandler]
  exact Eq.symm

end Sys2Proof.Machine

/-! SUPPORT. Operand addresses, loads, stores, the stack and the exchanges (R129, R131, R200 to R238). -/

namespace Sys2Proof.Machine

/-! ## Addresses (R129, R131) -/

theorem add_signExtend_toNat (w : Word) (d : Byte) : ((w + d.signExtend 16).toNat : Int) =
    (w.toNat + (if d.toNat < 128 then (d.toNat : Int) else d.toNat - 256)) % 65536 := by
  have hd := d.isLt
  rw [BitVec.toNat_add, BitVec.toNat_signExtend, BitVec.toNat_setWidth, BitVec.msb_eq_decide]
  by_cases h : d.toNat < 128
  · simp only [h, if_true, show ¬ 2 ^ (8 - 1) ≤ d.toNat by omega, decide_false, Bool.false_eq_true, if_false]
    omega
  · simp only [h, if_false, show 2 ^ (8 - 1) ≤ d.toNat by omega, decide_true, if_true]
    omega

/-- Settles O5: both addresses are a word plus a byte extended by its sign. -/
theorem displacementsAreSigned : Obligations.DisplacementsAreSigned := by
  unfold Obligations.DisplacementsAreSigned
  refine ⟨fun s x d => add_signExtend_toNat _ d, fun s pc0 e hpc => ?_⟩
  have h := add_signExtend_toNat s.pc e
  have hval : s.pc.toNat = (pc0.toNat + 2) % 65536 := by rw [hpc, BitVec.toNat_add]; rfl
  rw [State.relTarget, h, hval]
  split <;> omega

/-- Settles O6: the read-back, canonical-form and ROM_LIMIT laws of `write`. -/
theorem aStoreWritesOneByteAboveRomLimit : Obligations.AStoreWritesOneByteAboveRomLimit := by
  unfold Obligations.AStoreWritesOneByteAboveRomLimit
  intro s a v hw
  exact ⟨storesByte_of_mem hw rfl, State.write_wf s a v hw, fun hrom => if_pos hrom⟩

/-! ## Loads (R200 to R203, R208 to R224, R228, R229) -/

@[simp] theorem Regs.setHl_wordOf (r : Regs) (h l : Byte) : r.setHl (wordOf h l) = { r with h := h, l := l } := by
  simp [Regs.setHl]

/-- Settles O9: each load is `exec` unfolded at its instruction. -/
theorem loadsOfBytes : Obligations.LoadsOfBytes := by
  unfold Obligations.LoadsOfBytes
  exact ⟨fun s => ⟨fun _ _ => rfl, fun _ _ => rfl, fun _ _ _ => rfl, fun _ _ _ => rfl⟩,
    fun s => ⟨fun _ => rfl, fun _ _ _ => rfl, rfl, rfl, fun _ => rfl⟩⟩

/-- Settles O11: the flags are `szF` of the value loaded. -/
theorem loadsOfTheInterruptAndRefreshRegisters : Obligations.LoadsOfTheInterruptAndRefreshRegisters := by
  unfold Obligations.LoadsOfTheInterruptAndRefreshRegisters
  intro s
  exact ⟨⟨_, rfl, rfl, flagsAre_szF ..⟩, ⟨_, rfl, rfl, flagsAre_szF ..⟩, rfl, rfl⟩

/-- Settles O12: each load is `exec` unfolded at its instruction. -/
theorem loadsOfWords : Obligations.LoadsOfWords := by
  unfold Obligations.LoadsOfWords
  intro s
  refine ⟨fun _ _ => rfl, fun _ _ => rfl, fun nn => ?hl, fun _ _ => rfl, fun _ _ => rfl, rfl, fun _ => rfl⟩
  case hl =>
    simp only [exec, execLdHlMem, finish_eq, State.setHl, State.read16, Regs.setHl_wordOf]
    rfl

/-! ## Stores (R204 to R207, R211 to R213, R225 to R227) -/

/-- Settles O10: each store is one `write` or `write16`, which changes memory only. -/
theorem storesToMemory : Obligations.StoresToMemory := by
  unfold Obligations.StoresToMemory
  refine ⟨fun s hw => ⟨fun r => ?_, fun n => ?_, fun x d r => ?_, fun x d n => ?_, ?_, ?_, fun nn => ?_⟩,
    fun s hw => ⟨fun nn => ?_, fun dd nn => ?_, fun x nn => ?_⟩⟩
  iterate 7 exact ⟨_, rfl, by rw [State.write_eq]; rfl, storesByte_of_mem hw rfl⟩
  all_goals exact ⟨_, rfl, by rw [State.write16_eq]; rfl, storesWord_of_mem hw rfl⟩

/-! ## The stack (R230 to R233) -/

theorem push_then_pop {s t : State} {v : Word} (hs : StoresWord s t (s.regs.sp - 2) v) (hsp : t.regs.sp = s.regs.sp - 2)
    (hrom1 : s.params.romLimit ≤ (s.regs.sp - 1).toNat) (hrom2 : s.params.romLimit ≤ (s.regs.sp - 2).toNat) :
    t.popped = v := by
  have hnext : s.regs.sp - 2 + 1 = s.regs.sp - 1 := by bv_omega
  obtain ⟨hlo, hhi, -⟩ := hs
  rw [if_neg (by omega)] at hlo
  rw [hnext, if_neg (by omega)] at hhi
  rw [State.popped, State.read16, hsp, hnext, hhi, hlo, wordOf_hiOf_loOf]

/-- Settles O13: the push stores the word that the pop reads, by `push_then_pop`. -/
theorem pushAndPopMoveAWord : Obligations.PushAndPopMoveAWord := by
  unfold Obligations.PushAndPopMoveAWord
  refine ⟨fun s hw => ⟨fun qq => ?_, fun x => ?_, fun qq => ?_, fun x => ?_⟩, fun s p q hw hrom1 hrom2 => ?roundTrip⟩
  · exact ⟨_, rfl, by rw [State.push_eq]; rfl, storesWord_of_push hw rfl⟩
  · exact ⟨_, rfl, by rw [State.push_eq]; rfl, storesWord_of_push hw rfl⟩
  · cases qq <;> rfl
  · cases x <;> rfl
  case roundTrip =>
    let t := (s.push (s.regs.getPairQ p)).addT 11
    have hpop : t.popped = s.regs.getPairQ p := push_then_pop (storesWord_of_push hw rfl) (by simp [t]) hrom1 hrom2
    have hregs : t.afterPop.regs = s.regs := by simp [t]
    refine ⟨t, _, rfl, rfl, ?_⟩
    change t.afterPop.regs.setPairQ q t.popped = _
    rw [hregs, hpop]

/-! ## Exchanges (R234 to R238) -/

/-- Settles O14: the exchanges with memory are one `write16` at SP. -/
theorem exchangesSwap : Obligations.ExchangesSwap := by
  unfold Obligations.ExchangesSwap
  refine ⟨fun s => ⟨rfl, rfl, rfl⟩, fun s hw => ⟨?_, fun x => ?_⟩⟩
  · refine ⟨_, rfl, ?_, storesWord_of_mem hw rfl⟩
    rw [State.write16_eq, State.popped, State.read16]
    simp only [State.setHl, Regs.setHl_wordOf]
    rfl
  · exact ⟨_, rfl, by rw [State.write16_eq]; rfl, storesWord_of_mem hw rfl⟩

end Sys2Proof.Machine

/-! SUPPORT. Port accesses as updates of named fields, and the block instructions, one iteration each
(R239 to R246, R382 to R395). -/

namespace Sys2Proof.Machine

/-! ## Flags with a parity (R11, R381) -/

/-- The exclusive or of the bits says whether their number is even. -/
theorem parity_eq (v : Byte) : parity v = decide (ones v % 2 = 0) := by
  revert v
  decide

theorem flagsAre_szpF (v : Byte) (h n c : Bool) :
    FlagsAre (szpF v h n c) (v.getLsbD 7) (v == 0) (v.getLsbD 5) h (v.getLsbD 3) (decide (ones v % 2 = 0)) n c := by
  rw [szpF, parity_eq]
  exact flagsAre_szF ..

theorem ofNat_and_seven (k : Nat) : (BitVec.ofNat 8 k &&& 7 : Byte) = BitVec.ofNat 8 (k % 8) := by
  apply BitVec.eq_of_toNat_eq
  have h : k % 2 ^ 8 &&& (7 : Byte).toNat = k % 2 ^ 8 % 8 := Nat.and_two_pow_sub_one_eq_mod _ 3
  rw [BitVec.toNat_and, BitVec.toNat_ofNat, h, BitVec.toNat_ofNat]
  omega

theorem ioF_flagsAre (v : Byte) (k : Nat) (b : Byte) :
    FlagsAre (ioF v k b) (b.getLsbD 7) (b == 0) (b.getLsbD 5) (decide (k > 255)) (b.getLsbD 3)
      (decide (ones (BitVec.ofNat 8 (k % 8) ^^^ b) % 2 = 0)) (v.getLsbD 7) (decide (k > 255)) := by
  rw [ioF, ofNat_and_seven, parity_eq]
  exact flagsAre_szF ..

/-! ## Port accesses (R91, R92) -/

theorem State.afterPortRead_eq (s : State) :
    s.afterPortRead = { s with env := s.afterPortRead.env, trace := s.afterPortRead.trace } := by
  rw [afterPortRead, tracerCall_eq]

theorem State.portWrite_eq (s : State) (p : Word) (v : Byte) :
    s.portWrite p v = { s with env := (s.portWrite p v).env, trace := (s.portWrite p v).trace } := by
  rw [portWrite, tracerCall_eq]

theorem State.portWrite_portWrites (s : State) (p : Word) (v : Byte) :
    (s.portWrite p v).trace.portWrites = { port := p, value := v, t0 := s.t } :: s.trace.portWrites := by
  rw [portWrite, tracerCall_eq]

/-- Settles O34: each input is one port read, which moves the platform's side only. -/
theorem inputsReadOnePort : Obligations.InputsReadOnePort := by
  unfold Obligations.InputsReadOnePort
  refine fun s => ⟨fun n => ⟨_, rfl, ?_⟩, fun r => ⟨_, rfl, ?_, flagsAre_szpF ..⟩, ⟨_, rfl, ?_, flagsAre_szpF ..⟩⟩
  · rw [State.afterPortRead_eq]; rfl
  · rw [State.afterPortRead_eq]; cases r <;> rfl
  · rw [State.afterPortRead_eq]; rfl

/-- Settles O35: each output is one port write, which moves the Tracer's side only. -/
theorem outputsWriteOnePort : Obligations.OutputsWriteOnePort := by
  unfold Obligations.OutputsWriteOnePort
  refine fun s => ⟨fun n => ⟨_, rfl, ?_, ?_⟩, fun r => ⟨_, rfl, ?_, ?_⟩, ⟨_, rfl, ?_, ?_⟩⟩
  · rw [State.portWrite_eq]; rfl
  · exact State.portWrite_portWrites ..
  · rw [State.portWrite_eq]; rfl
  · exact State.portWrite_portWrites ..
  · rw [State.portWrite_eq]; rfl
  · exact State.portWrite_portWrites ..

/-! ## One iteration and its repeat (R240, R386) -/

theorem repeatTail_afterIteration {s u : State} (again : Bool) (hpc : u.pc = s.pc) (ht : u.t = s.t) :
    repeatTail again u = .next (afterIteration s u again) := by
  rw [repeatTail_eq, afterIteration]
  cases again with
  | false => simp [State.addT, ht]
  | true =>
    simp [State.addT, State.jump, State.setMemptr, State.pc0, hpc, ht]
    bv_omega

theorem finish_afterIteration {s u : State} (ht : u.t = s.t) : finish 16 u = .next (afterIteration s u false) := by
  simp [afterIteration, State.addT, ht]

@[simp] theorem afterIteration_regs (s u : State) (again : Bool) : (afterIteration s u again).regs = u.regs := by
  cases again <;> rfl

@[simp] theorem afterIteration_mem (s u : State) (again : Bool) : (afterIteration s u again).mem = u.mem := by
  cases again <;> rfl

@[simp] theorem afterIteration_env (s u : State) (again : Bool) : (afterIteration s u again).env = u.env := by
  cases again <;> rfl

@[simp] theorem afterIteration_trace (s u : State) (again : Bool) : (afterIteration s u again).trace = u.trace := by
  cases again <;> rfl

/-! ## Transfers (R239 to R242) -/

theorem blockLd_eq (dir : Word) (s : State) : blockLd dir s = { s with
    regs := { ((s.regs.setHl (s.regs.hl + dir)).setDe (s.regs.de + dir)).setBc (s.regs.bc - 1) with
      f := blockLdF (s.read s.regs.hl) s.regs.a s.regs.f (s.regs.bc - 1 != 0) }
    mem := (blockLd dir s).mem } := by
  rw [blockLd]
  dsimp only
  rw [State.write_eq]
  rfl

theorem blockLd_bc (dir : Word) (s : State) : (blockLd dir s).bc = s.regs.bc - 1 := by
  rw [blockLd_eq]
  exact wordOf_hiOf_loOf _

/-- Settles O15: the four instructions are one iteration, repeated or not. -/
theorem blockTransfersMoveOneByteAStep : Obligations.BlockTransfersMoveOneByteAStep := by
  unfold Obligations.BlockTransfersMoveOneByteAStep
  rintro s hw p hp v bc
  have hexec : exec p.1 s = .next (afterIteration s (blockLd p.2.1 s) (p.2.2 && bc != 0)) := by
    have hrepeat (dir : Word) : repeatTail ((blockLd dir s).bc != 0) (blockLd dir s) =
        .next (afterIteration s (blockLd dir s) (true && bc != 0)) := by
      rw [blockLd_bc, repeatTail_afterIteration _ (by simp [blockLd]) (blockLd_t dir s)]
      rfl
    simp only [List.mem_cons, List.not_mem_nil, or_false] at hp
    obtain rfl | rfl | rfl | rfl := hp
    · exact finish_afterIteration (blockLd_t 1 s)
    · exact finish_afterIteration (blockLd_t (-1) s)
    · exact hrepeat 1
    · exact hrepeat (-1)
  refine ⟨_, hexec, ?_, storesByte_of_mem hw ((afterIteration_mem ..).trans (blockLd_mem ..)), ?_⟩
  · rw [afterIteration_regs, afterIteration_mem, blockLd_eq]
  · rw [afterIteration_regs, blockLd_eq]
    exact flagsAre_mkF ..

/-! ## Searches (R243 to R246) -/

theorem blockCp_eq (dir : Word) (s : State) : blockCp dir s = { s with
    regs := { (s.regs.setHl (s.regs.hl + dir)).setBc (s.regs.bc - 1) with
      f := blockCpF (s.read s.regs.hl) s.regs.a s.regs.f (s.regs.bc - 1 != 0) }
    memptr := s.memptr + dir } := rfl

theorem sub_beq_zero (a v : Byte) : (a - v == 0) = (a == v) := by
  rw [Bool.eq_iff_iff, beq_iff_eq, beq_iff_eq]
  constructor <;> intro h <;> bv_omega

theorem searchOn_blockCp (dir : Word) (s : State) :
    searchOn (blockCp dir s) = (s.regs.bc - 1 != 0 && s.regs.a != s.read s.regs.hl) := by
  have hbc : (blockCp dir s).bc = s.regs.bc - 1 := by
    rw [blockCp_eq]
    exact wordOf_hiOf_loOf _
  have hz : flagZ (blockCp dir s).regs.f = (s.regs.a - s.read s.regs.hl == 0) := by
    rw [blockCp_eq]
    exact flagZ_mkF ..
  rw [searchOn, hbc, hz, sub_beq_zero]
  rfl

/-- Settles O16: the four instructions are one comparison, repeated or not. -/
theorem blockSearchesCompareOneByteAStep : Obligations.BlockSearchesCompareOneByteAStep := by
  unfold Obligations.BlockSearchesCompareOneByteAStep
  rintro s p hp v bc h n
  have hexec : exec p.1 s = .next (afterIteration s (blockCp p.2.1 s) (p.2.2 && bc != 0 && s.regs.a != v)) := by
    have hrepeat (dir : Word) : repeatTail (searchOn (blockCp dir s)) (blockCp dir s) =
        .next (afterIteration s (blockCp dir s) (true && bc != 0 && s.regs.a != v)) := by
      rw [searchOn_blockCp, repeatTail_afterIteration _ (by simp [blockCp]) (blockCp_t dir s)]
      rfl
    simp only [List.mem_cons, List.not_mem_nil, or_false] at hp
    obtain rfl | rfl | rfl | rfl := hp
    · exact finish_afterIteration (blockCp_t 1 s)
    · exact finish_afterIteration (blockCp_t (-1) s)
    · exact hrepeat 1
    · exact hrepeat (-1)
  refine ⟨_, hexec, ?_, ?_⟩
  · rw [afterIteration_regs, blockCp_eq]
  · have hn : n = s.regs.a - v - BitVec.ofNat 8 h.toNat := by cases hh : h <;> simp [n, hh]
    rw [afterIteration_regs, blockCp_eq, ← sub_beq_zero, hn]
    exact flagsAre_mkF ..

/-! ## Block inputs (R385 to R388) -/

theorem blockIn_eq (dir : Word) (cdir : Byte) (s : State) : blockIn dir cdir s = { s with
    regs := { s.regs.setHl (s.regs.hl + dir) with
      b := s.regs.b - 1
      f := ioF (s.portByte s.regs.bc) ((s.portByte s.regs.bc).toNat + (s.regs.c + cdir).toNat) (s.regs.b - 1) }
    mem := (blockIn dir cdir s).mem
    memptr := s.regs.bc + dir, env := (blockIn dir cdir s).env, trace := (blockIn dir cdir s).trace } := by
  rw [blockIn]
  dsimp only
  rw [State.afterPortRead_eq, State.write_eq]
  rfl

/-- Settles O36: the four instructions are one input iteration, repeated or not. -/
theorem blockInputsReadOnePortAStep : Obligations.BlockInputsReadOnePortAStep := by
  unfold Obligations.BlockInputsReadOnePortAStep
  rintro s hw p hp v b k
  have hexec : exec p.1 s = .next (afterIteration s (blockIn p.2.1 p.2.2.1 s) (p.2.2.2 && b != 0)) := by
    have hrepeat (dir : Word) (cdir : Byte) : repeatTail (ioOn (blockIn dir cdir s)) (blockIn dir cdir s) =
        .next (afterIteration s (blockIn dir cdir s) (true && b != 0)) := by
      have hon : ioOn (blockIn dir cdir s) = (s.regs.b - 1 != 0) := by rw [ioOn, blockIn_eq]
      rw [hon, repeatTail_afterIteration _ (by simp [blockIn]) (blockIn_t dir cdir s)]
      rfl
    simp only [List.mem_cons, List.not_mem_nil, or_false] at hp
    obtain rfl | rfl | rfl | rfl := hp
    · exact finish_afterIteration (blockIn_t 1 1 s)
    · exact finish_afterIteration (blockIn_t (-1) (-1) s)
    · exact hrepeat 1 1
    · exact hrepeat (-1) (-1)
  refine ⟨_, hexec, ?_, storesByte_of_mem hw ((afterIteration_mem ..).trans (blockIn_mem ..)), ?_⟩
  · rw [afterIteration_regs, afterIteration_mem, afterIteration_env, afterIteration_trace, blockIn_eq]
  · rw [afterIteration_regs, blockIn_eq]
    exact ioF_flagsAre ..

/-! ## Block outputs (R392 to R395) -/

theorem blockOut_eq (dir : Word) (s : State) : blockOut dir s = { s with
    regs := { s.regs.setHl (s.regs.hl + dir) with
      b := s.regs.b - 1
      f := ioF (s.read s.regs.hl) ((s.read s.regs.hl).toNat + (loOf (s.regs.hl + dir)).toNat) (s.regs.b - 1) }
    memptr := blockOutPort s + dir, env := (blockOut dir s).env, trace := (blockOut dir s).trace } := by
  rw [blockOut]
  dsimp only
  rw [State.portWrite_eq]
  rfl

theorem blockOut_portWrites (dir : Word) (s : State) : (blockOut dir s).trace.portWrites =
    { port := blockOutPort s, value := s.read s.regs.hl, t0 := s.t } :: s.trace.portWrites := by
  have h := blockOut_control dir s
  exact congrArg Control.portWrites h

/-- Settles O37: the four instructions are one output iteration, repeated or not. -/
theorem blockOutputsWriteOnePortAStep : Obligations.BlockOutputsWriteOnePortAStep := by
  unfold Obligations.BlockOutputsWriteOnePortAStep
  rintro s p hp v b port k
  have hexec : exec p.1 s = .next (afterIteration s (blockOut p.2.1 s) (p.2.2 && b != 0)) := by
    have hrepeat (dir : Word) : repeatTail (ioOn (blockOut dir s)) (blockOut dir s) =
        .next (afterIteration s (blockOut dir s) (true && b != 0)) := by
      have hon : ioOn (blockOut dir s) = (s.regs.b - 1 != 0) := by rw [ioOn, blockOut_eq]
      rw [hon, repeatTail_afterIteration _ (by simp [blockOut]) (blockOut_t dir s)]
      rfl
    simp only [List.mem_cons, List.not_mem_nil, or_false] at hp
    obtain rfl | rfl | rfl | rfl := hp
    · exact finish_afterIteration (blockOut_t 1 s)
    · exact finish_afterIteration (blockOut_t (-1) s)
    · exact hrepeat 1
    · exact hrepeat (-1)
  refine ⟨_, hexec, ?_, ?_, ?_⟩
  · rw [afterIteration_regs, afterIteration_env, afterIteration_trace, blockOut_eq]
    rfl
  · rw [afterIteration_trace]
    exact blockOut_portWrites p.2.1 s
  · rw [afterIteration_regs, blockOut_eq]
    exact ioF_flagsAre ..

end Sys2Proof.Machine

/-! SUPPORT. The arithmetic and logic instructions (R250 to R279): their flags as `FlagsAre`, decimal adjustment as arithmetic
on digits, and the 16-bit operations with signed overflow. -/

namespace Sys2Proof.Machine

/-! ## The operand forms (R250) and the logic operations (R257 to R259) -/

/-- Settles O17: the forty instructions are the five forms of `aluStep`. -/
theorem aluOperandForms : Obligations.AluOperandForms := by
  unfold Obligations.AluOperandForms
  intro op s
  cases op <;> exact ⟨fun _ => rfl, rfl, fun _ => rfl, fun _ _ => rfl, fun _ _ => rfl⟩

/-- Settles O20: each operation's flags are `szpF` of its result. -/
theorem logicResultsAndFlags : Obligations.LogicResultsAndFlags := by
  unfold Obligations.LogicResultsAndFlags
  intro a v f p hp
  simp only [List.mem_cons, List.not_mem_nil, or_false] at hp
  obtain rfl | rfl | rfl := hp <;> exact ⟨rfl, flagsAre_szpF ..⟩

/-! ## Increments and decrements of bytes (R261 to R266) -/

theorem inc8_flagsAre (v f : Byte) :
    FlagsAre (inc8 v f).2 ((v + 1).getLsbD 7) (v + 1 == 0) ((v + 1).getLsbD 5) (decide (v.toNat % 16 = 15))
      ((v + 1).getLsbD 3) (v == 0x7F) false (flagC f) :=
  flagsAre_szF ..

theorem dec8_flagsAre (v f : Byte) :
    FlagsAre (dec8 v f).2 ((v - 1).getLsbD 7) (v - 1 == 0) ((v - 1).getLsbD 5) (decide (v.toNat % 16 = 0))
      ((v - 1).getLsbD 3) (v == 0x80) true (flagC f) :=
  flagsAre_szF ..

/-- Settles O21: each form puts `inc8` or `dec8` of its operand back where it came from. -/
theorem incrementsAndDecrementsOfBytes : Obligations.IncrementsAndDecrementsOfBytes := by
  unfold Obligations.IncrementsAndDecrementsOfBytes
  intro s hw incFlags decFlags
  refine ⟨fun r => ⟨_, rfl, rfl, inc8_flagsAre ..⟩, fun r => ⟨_, rfl, rfl, dec8_flagsAre ..⟩,
    fun x h => ⟨_, rfl, rfl, inc8_flagsAre ..⟩, fun x h => ⟨_, rfl, rfl, dec8_flagsAre ..⟩,
    ⟨_, rfl, ?_, storesByte_of_mem hw rfl, ?_⟩, ⟨_, rfl, ?_, storesByte_of_mem hw rfl, ?_⟩,
    fun x d => ⟨_, rfl, ?_, storesByte_of_mem hw rfl, ?_⟩, fun x d => ⟨_, rfl, ?_, storesByte_of_mem hw rfl, ?_⟩⟩
  case' refine_2 | refine_6 => exact inc8_flagsAre ..
  case' refine_4 | refine_8 => exact dec8_flagsAre ..
  all_goals rw [State.write_eq]; rfl

/-! ## DAA (R267) -/

theorem daa_flagsAre (a f : Byte) :
    FlagsAre (daa a f).2 ((daa a f).1.getLsbD 7) ((daa a f).1 == 0) ((daa a f).1.getLsbD 5)
      (if flagN f then flagH f && decide (a.toNat % 16 < 6) else decide (a.toNat % 16 > 9)) ((daa a f).1.getLsbD 3)
      (decide (ones (daa a f).1 % 2 = 0)) (flagN f) (decide (flagC f = true ∨ a.toNat > 0x99)) := by
  have hcarry : decide (flagC f = true ∨ a.toNat > 0x99) = (flagC f || decide (a.toNat > 0x99)) := by simp
  rw [hcarry]
  exact flagsAre_szpF ..

theorem daa_toNat (a f : Byte) :
    ((daa a f).1.toNat : Int) =
      (let corr : Int := (if flagH f = true ∨ a.toNat % 16 > 9 then 6 else 0) +
        (if flagC f = true ∨ a.toNat > 0x99 then 0x60 else 0)
       if flagN f then (a.toNat : Int) - corr else a.toNat + corr) % 256 := by
  have hcorr : (((if flagH f || decide (nibble a > 9) then 6 else 0) +
      (if flagC f || decide (a.toNat > 0x99) then 0x60 else 0) : Nat) : Int) =
      (if flagH f = true ∨ a.toNat % 16 > 9 then 6 else 0) + (if flagC f = true ∨ a.toNat > 0x99 then 0x60 else 0) := by
    simp [nibble]
  dsimp only
  rw [← hcorr, daa]
  cases flagN f
  · simp only [Bool.false_eq_true, if_false, BitVec.toNat_ofNat]
    omega
  · simp only [if_true, BitVec.toNat_ofInt]
    omega

/-- The byte of a two-digit decimal number. -/
def bcd (n : Nat) : Byte := BitVec.ofNat 8 (n / 10 * 16 + n % 10)

theorem bcd_toNat {n : Nat} (h : n < 100) : (bcd n).toNat = n / 10 * 16 + n % 10 := by
  rw [bcd, BitVec.toNat_ofNat]
  omega

/-- Two decimal digits with a carry or borrow `k` in the hundreds, packed in a byte. -/
theorem packed_digits {h l k n t : Int} (hh : 0 ≤ h ∧ h ≤ 9) (hl : 0 ≤ l ∧ l ≤ 9) (hn : n = 100 * k + 10 * h + l)
    (ht : t % 256 = (256 * k + 16 * h + l) % 256) : t % 256 = n % 100 / 10 * 16 + n % 10 := by
  have hhundred : n % 100 = 10 * h + l := by omega
  rw [ht, hhundred]
  omega

/-- Decimal correction of a binary sum of digits: `u` the sum of the high digits and `s` that of the low digits with the
carry in. The tests of R267 find whether each digit's sum is above 9. -/
theorem decimal_sum {u s a : Int} (hu : 0 ≤ u ∧ u ≤ 18) (hs : 0 ≤ s ∧ s ≤ 19) (ha : a = (16 * u + s) % 256) :
    ((s > 15 ∨ a % 16 > 9) ↔ 9 < s) ∧ ((16 * u + s > 255 ∨ a > 0x99) ↔ 99 < 10 * u + s) ∧
    (a + ((if 9 < s then 6 else 0) + (if 99 < 10 * u + s then 0x60 else 0))) % 256 =
      (10 * u + s) % 100 / 10 * 16 + (10 * u + s) % 10 := by
  refine ⟨by omega, by omega, ?_⟩
  split_ifs with hlow hhigh hhigh
  · exact packed_digits (h := u - 9) (l := s - 10) (k := 1) (by omega) (by omega) (by omega) (by omega)
  · exact packed_digits (h := u + 1) (l := s - 10) (k := 0) (by omega) (by omega) (by omega) (by omega)
  · exact packed_digits (h := u - 10) (l := s) (k := 1) (by omega) (by omega) (by omega) (by omega)
  · exact packed_digits (h := u) (l := s) (k := 0) (by omega) (by omega) (by omega) (by omega)

/-- Decimal correction of a binary difference of digits: `d` the difference of the high digits and `e` that of the low digits
with the borrow in. The tests of R267 find whether each digit borrows. -/
theorem decimal_diff {d e a : Int} (hd : -9 ≤ d ∧ d ≤ 9) (he : -10 ≤ e ∧ e ≤ 9) (ha : a = (16 * d + e) % 256) :
    ((e < 0 ∨ a % 16 > 9) ↔ e < 0) ∧ ((16 * d + e < 0 ∨ a > 0x99) ↔ 10 * d + e < 0) ∧
    (a - ((if e < 0 then 6 else 0) + (if 10 * d + e < 0 then 0x60 else 0))) % 256 =
      (10 * d + e) % 100 / 10 * 16 + (10 * d + e) % 10 := by
  refine ⟨by omega, by omega, ?_⟩
  split_ifs with hlow hhigh hhigh
  · exact packed_digits (h := d + 9) (l := e + 10) (k := -1) (by omega) (by omega) (by omega) (by omega)
  · exact packed_digits (h := d - 1) (l := e + 10) (k := 0) (by omega) (by omega) (by omega) (by omega)
  · exact packed_digits (h := d + 10) (l := e) (k := -1) (by omega) (by omega) (by omega) (by omega)
  · exact packed_digits (h := d) (l := e) (k := 0) (by omega) (by omega) (by omega) (by omega)

/-- DAA after an addition, from the digits added. -/
theorem daa_adc {x y : Nat} (f : Byte) (hx : x < 100) (hy : y < 100) :
    let c := (flagC f).toNat
    let sum := alu .adc (bcd x) (bcd y) f
    (daa sum.1 sum.2).1 = bcd ((x + y + c) % 100) ∧ (flagC (daa sum.1 sum.2).2 = true ↔ 100 ≤ x + y + c) := by
  intro c sum
  have hc : c ≤ 1 := (flagC f).toNat_le
  have hflags : FlagsAre sum.2 _ _ _ _ _ _ _ _ := add8_flagsAre (bcd x) (bcd y) (flagC f)
  have hsum : sum.1.toNat = ((bcd x).toNat + (bcd y).toNat + c) % 256 := add8_toNat (bcd x) (bcd y) (flagC f)
  have hcarry := (daa_flagsAre sum.1 sum.2).carry
  have hres := daa_toNat sum.1 sum.2
  rw [hflags.carry] at hcarry
  rw [hflags.half, hflags.carry, hflags.subtract] at hres
  rw [bcd_toNat hx, bcd_toNat hy] at hsum hcarry hres
  simp only [decide_eq_true_eq, Bool.false_eq_true, if_false] at hres hcarry
  obtain ⟨hlow, hhigh, hdec⟩ := decimal_sum (u := (x / 10 : Nat) + (y / 10 : Nat))
    (s := (x % 10 : Nat) + (y % 10 : Nat) + c) (a := sum.1.toNat) (by omega) (by omega) (by omega)
  have hlow' : ((x / 10 * 16 + x % 10) % 16 + (y / 10 * 16 + y % 10) % 16 + c > 15 ∨ sum.1.toNat % 16 > 9) ↔
      9 < ((x % 10 : Nat) : Int) + (y % 10 : Nat) + c := by omega
  have hhigh' : (x / 10 * 16 + x % 10 + (y / 10 * 16 + y % 10) + c > 255 ∨ sum.1.toNat > 0x99) ↔
      99 < 10 * (((x / 10 : Nat) : Int) + (y / 10 : Nat)) + (((x % 10 : Nat) : Int) + (y % 10 : Nat) + c) := by omega
  simp only [c, hlow', hhigh', hdec] at hres hcarry
  refine ⟨BitVec.eq_of_toNat_eq ?_, ?_⟩
  · rw [bcd_toNat (Nat.mod_lt _ (by decide))]
    omega
  · rw [hcarry, decide_eq_true_eq]
    omega

/-- DAA after a subtraction, from the digits subtracted. -/
theorem daa_sbc {x y : Nat} (f : Byte) (hx : x < 100) (hy : y < 100) :
    let c := (flagC f).toNat
    let diff := alu .sbc (bcd x) (bcd y) f
    (daa diff.1 diff.2).1 = bcd ((x + 200 - y - c) % 100) ∧ (flagC (daa diff.1 diff.2).2 = true ↔ x < y + c) := by
  intro c diff
  have hc : c ≤ 1 := (flagC f).toNat_le
  have hflags : FlagsAre diff.2 _ _ _ _ _ _ _ _ := sub8_flagsAre (bcd x) (bcd y) (flagC f)
  have hdiff : (diff.1.toNat : Int) = (((bcd x).toNat : Int) - (bcd y).toNat - c) % 256 :=
    sub8_toNat (bcd x) (bcd y) (flagC f)
  have hcarry := (daa_flagsAre diff.1 diff.2).carry
  have hres := daa_toNat diff.1 diff.2
  rw [hflags.carry] at hcarry
  rw [hflags.half, hflags.carry, hflags.subtract] at hres
  rw [bcd_toNat hx, bcd_toNat hy] at hdiff hcarry hres
  simp only [decide_eq_true_eq, if_true] at hres hcarry
  obtain ⟨hlow, hhigh, hdec⟩ := decimal_diff (d := (x / 10 : Nat) - (y / 10 : Nat)) (e := (x % 10 : Nat) - (y % 10 : Nat) - c)
    (by omega) (by omega) (hdiff.trans (by congr 1; omega))
  have hlow' : ((x / 10 * 16 + x % 10) % 16 < (y / 10 * 16 + y % 10) % 16 + c ∨ diff.1.toNat % 16 > 9) ↔
      ((x % 10 : Nat) : Int) - (y % 10 : Nat) - c < 0 := by omega
  have hhigh' : (x / 10 * 16 + x % 10 < y / 10 * 16 + y % 10 + c ∨ diff.1.toNat > 0x99) ↔
      10 * (((x / 10 : Nat) : Int) - (y / 10 : Nat)) + (((x % 10 : Nat) : Int) - (y % 10 : Nat) - c) < 0 := by omega
  simp only [c, hlow', hhigh', hdec] at hres hcarry
  refine ⟨BitVec.eq_of_toNat_eq ?_, ?_⟩
  · rw [bcd_toNat (Nat.mod_lt _ (by decide))]
    omega
  · rw [hcarry, decide_eq_true_eq]
    omega

/-- Settles O22: the correction is `daa_toNat`, and on digits it gives `daa_adc` and `daa_sbc`. -/
theorem daaCorrectsToDecimal : Obligations.DaaCorrectsToDecimal := by
  unfold Obligations.DaaCorrectsToDecimal
  refine ⟨fun s => ⟨_, rfl, rfl, daa_toNat .., daa_flagsAre ..⟩, fun x y f hx hy => ?_⟩
  obtain ⟨hsum, hcarry⟩ := daa_adc f hx hy
  obtain ⟨hdiff, hborrow⟩ := daa_sbc f hx hy
  exact ⟨hsum, hcarry, hdiff, hborrow⟩

/-! ## CPL, NEG, CCF and SCF (R268 to R271) -/

theorem not_eq_xor (a : Byte) : ~~~a = a ^^^ 0xFF := BitVec.xor_allOnes.symm

theorem sub8_zero_left (a : Byte) : (sub8 0 a false).1 = -a := (sub8_false 0 a).trans (BitVec.zero_sub ..)

/-- NEG is `sub8` from 0; its flags in terms of the operand. -/
theorem neg_flagsAre (a : Byte) : FlagsAre (sub8 0 a false).2 ((-a).getLsbD 7) (a == 0) ((-a).getLsbD 5)
    (decide (a.toNat % 16 ≠ 0)) ((-a).getLsbD 3) (a == 0x80) true (a != 0) := by
  have hzero : (-a == 0) = (a == 0) := by revert a; decide
  have hhalf : decide ((0 : Byte).toNat % 16 < a.toNat % 16 + false.toNat) = decide (a.toNat % 16 ≠ 0) := by
    revert a; decide
  have hover : ((0 : Byte).getLsbD 7 != a.getLsbD 7 && (-a).getLsbD 7 != (0 : Byte).getLsbD 7) = (a == 0x80) := by
    revert a; decide
  have hborrow : decide ((0 : Byte).toNat < a.toNat + false.toNat) = (a != 0) := by revert a; decide
  have h := sub8_flagsAre 0 a false
  rwa [sub8_zero_left, hzero, hhalf, hover, hborrow] at h

/-- Settles O23: each by the flags of its operation. -/
theorem accumulatorAndCarryOperations : Obligations.AccumulatorAndCarryOperations := by
  unfold Obligations.AccumulatorAndCarryOperations
  intro s a f
  refine ⟨⟨_, rfl, ?_, ?_⟩, fun y => ⟨_, rfl, ?_, neg_flagsAre a⟩, ⟨_, rfl, rfl, ?_⟩, ⟨_, rfl, rfl, ?_⟩⟩
  · rw [← not_eq_xor]; rfl
  · rw [← not_eq_xor]; exact flagsAre_mkF ..
  · rw [← sub8_zero_left]; rfl
  · cases hp : s.params.f53ScfCcf; exact flagsAre_mkF ..
  · exact flagsAre_mkF ..

/-! ## 16-bit arithmetic (R272 to R279) -/

theorem add16_flagsAre (x y : Word) (f : Byte) :
    FlagsAre (add16 x y f).2 (flagS f) (flagZ f) ((x + y).getLsbD 13)
      (decide (x.toNat % 4096 + y.toNat % 4096 > 0xFFF)) ((x + y).getLsbD 11) (flagPV f) false
      (decide (x.toNat + y.toNat > 0xFFFF)) :=
  flagsAre_mkF ..

/-- Settles O24: the sums are `add16`, and the counts set no flag. -/
theorem addsAndCountsOfWords : Obligations.AddsAndCountsOfWords := by
  unfold Obligations.AddsAndCountsOfWords
  exact ⟨fun s => ⟨fun ss => ⟨_, rfl, rfl, add16_flagsAre ..⟩, fun x pp => ⟨_, rfl, rfl, add16_flagsAre ..⟩⟩,
    fun s => ⟨fun _ => rfl, fun _ => rfl, fun _ => rfl, fun _ => rfl⟩⟩

theorem getLsbD_fifteen_eq_toInt_neg (v : Word) : v.getLsbD 15 = decide (v.toInt < 0) := by
  rw [← BitVec.msb_eq_toInt, BitVec.msb_eq_getLsbD_last]

theorem word_toNat_eq_toInt_emod (v : Word) : (v.toNat : Int) = v.toInt % 65536 := by
  have := v.isLt
  rw [BitVec.toInt_eq_toNat_cond]
  split <;> omega

theorem word_toInt_range (v : Word) : -32768 ≤ v.toInt ∧ v.toInt ≤ 32767 :=
  ⟨v.le_toInt, Int.le_of_lt_add_one v.toInt_lt⟩

/-- As `add_overflow_iff`, for words (R273). -/
theorem word_add_overflow {a b res : Word} {c : Nat} (hc : c ≤ 1) (hres : res.toNat = (a.toNat + b.toNat + c) % 65536) :
    (a.getLsbD 15 == b.getLsbD 15 && res.getLsbD 15 != a.getLsbD 15) =
      decide (a.toInt + b.toInt + c < -32768 ∨ 32767 < a.toInt + b.toInt + c) := by
  have hcong : res.toInt % 65536 = (a.toInt + b.toInt + c) % 65536 := by
    have := word_toNat_eq_toInt_emod a; have := word_toNat_eq_toInt_emod b; have := word_toNat_eq_toInt_emod res
    omega
  rw [Bool.eq_iff_iff]
  simp only [getLsbD_fifteen_eq_toInt_neg, Bool.and_eq_true, beq_iff_eq, bne_iff_ne, decide_eq_decide, decide_eq_true_eq, ne_eq]
  have := word_toInt_range a; have := word_toInt_range b; have := word_toInt_range res
  omega

/-- As `sub_overflow_iff`, for words (R274). -/
theorem word_sub_overflow {a b res : Word} {c : Nat} (hc : c ≤ 1)
    (hres : (res.toNat : Int) = ((a.toNat : Int) - b.toNat - c) % 65536) :
    (a.getLsbD 15 != b.getLsbD 15 && res.getLsbD 15 != a.getLsbD 15) =
      decide (a.toInt - b.toInt - c < -32768 ∨ 32767 < a.toInt - b.toInt - c) := by
  have hcong : res.toInt % 65536 = (a.toInt - b.toInt - c) % 65536 := by
    have := word_toNat_eq_toInt_emod a; have := word_toNat_eq_toInt_emod b; have := word_toNat_eq_toInt_emod res
    omega
  rw [Bool.eq_iff_iff]
  simp only [getLsbD_fifteen_eq_toInt_neg, Bool.and_eq_true, bne_iff_ne, decide_eq_decide, decide_eq_true_eq, ne_eq]
  have := word_toInt_range a; have := word_toInt_range b; have := word_toInt_range res
  omega

theorem adc16_toNat (a b : Word) (f : Byte) :
    (adc16 a b f).1.toNat = (a.toNat + b.toNat + (flagC f).toNat) % 65536 := BitVec.toNat_ofNat ..

theorem sbc16_toNat (a b : Word) (f : Byte) :
    ((sbc16 a b f).1.toNat : Int) = ((a.toNat : Int) - b.toNat - (flagC f).toNat) % 65536 := by
  rw [sbc16, BitVec.toNat_ofInt]
  omega

theorem adc16_flagsAre (a b : Word) (f : Byte) :
    let res := (adc16 a b f).1
    let c := (flagC f).toNat
    FlagsAre (adc16 a b f).2 (res.getLsbD 15) (res == 0) (res.getLsbD 13)
      (decide (a.toNat % 4096 + b.toNat % 4096 + c > 0xFFF)) (res.getLsbD 11)
      (decide (a.toInt + b.toInt + c < -32768 ∨ 32767 < a.toInt + b.toInt + c)) false
      (decide (a.toNat + b.toNat + c > 0xFFFF)) := by
  intro res c
  rw [← word_add_overflow (flagC f).toNat_le (adc16_toNat a b f)]
  exact flagsAre_mkF ..

theorem sbc16_flagsAre (a b : Word) (f : Byte) :
    let res := (sbc16 a b f).1
    let c := (flagC f).toNat
    FlagsAre (sbc16 a b f).2 (res.getLsbD 15) (res == 0) (res.getLsbD 13)
      (decide (a.toNat % 4096 < b.toNat % 4096 + c)) (res.getLsbD 11)
      (decide (a.toInt - b.toInt - c < -32768 ∨ 32767 < a.toInt - b.toInt - c)) true
      (decide (a.toNat < b.toNat + c)) := by
  intro res c
  have hborrow : decide ((a.toNat : Int) - b.toNat - c < 0) = decide (a.toNat < b.toNat + c) :=
    decide_eq_decide.mpr (by omega)
  rw [← word_sub_overflow (flagC f).toNat_le (sbc16_toNat a b f), ← hborrow]
  exact flagsAre_mkF ..

/-- Settles O25: HL after each is the result of `adc16` or `sbc16`. -/
theorem adcAndSbcOfWords : Obligations.AdcAndSbcOfWords := by
  unfold Obligations.AdcAndSbcOfWords
  intro s ss x y c
  refine ⟨⟨_, rfl, rfl, ?_, ?_⟩, ⟨_, rfl, rfl, ?_, ?_⟩⟩
  · exact (congrArg BitVec.toNat (Regs.setHl_hl s.regs _)).trans (adc16_toNat ..)
  · have hhl := Regs.setHl_hl s.regs (adc16 s.hl y s.regs.f).1
    have h := adc16_flagsAre s.hl y s.regs.f
    rw [← hhl] at h
    exact h
  · exact (congrArg (fun w : Word => (w.toNat : Int)) (Regs.setHl_hl s.regs _)).trans (sbc16_toNat ..)
  · have hhl := Regs.setHl_hl s.regs (sbc16 s.hl y s.regs.f).1
    have h := sbc16_flagsAre s.hl y s.regs.f
    rw [← hhl] at h
    exact h

end Sys2Proof.Machine

/-! SUPPORT. The rotates, shifts and bit instructions, and the control instructions (R300 to R362). -/

namespace Sys2Proof.Machine

/-! ## Shifts and rotates (R300 to R312) -/

/-- Each shift and rotate as a number, with the bit that goes out. -/
theorem rotRes_spec (v : Byte) (c : Bool) :
    let n := v.toNat
    ∀ p ∈ [(RotOp.rlc, n * 2 % 256 + n / 128, v.getLsbD 7), (.rrc, n / 2 + n % 2 * 128, v.getLsbD 0),
           (.rl, n * 2 % 256 + c.toNat, v.getLsbD 7), (.rr, n / 2 + c.toNat * 128, v.getLsbD 0),
           (.sla, n * 2 % 256, v.getLsbD 7), (.sra, n / 2 + n / 128 * 128, v.getLsbD 0),
           (.sll, n * 2 % 256 + 1, v.getLsbD 7), (.srl, n / 2, v.getLsbD 0)],
      (rotRes p.1 v c).1.toNat = p.2.1 ∧ (rotRes p.1 v c).2 = p.2.2 := by
  revert v c
  decide

/-- Settles O26: the result and the carry are `rotRes_spec`, the other flags `szpF` of the result. -/
theorem shiftResultsAndFlags : Obligations.ShiftResultsAndFlags := by
  unfold Obligations.ShiftResultsAndFlags
  intro v f n c p hp res
  obtain ⟨hres, hcarry⟩ := rotRes_spec v (flagC f) p hp
  refine ⟨hres, ?_⟩
  rw [← hcarry]
  exact flagsAre_szpF ..

/-- Settles O27: the thirty-two instructions are the four forms of `rot`. -/
theorem shiftOperandForms : Obligations.ShiftOperandForms := by
  unfold Obligations.ShiftOperandForms
  intro op s hw res flags
  have hreg (r : Reg8) : exec (rotR op r) s = rotReg op r s := by cases op <;> rfl
  have hmem : exec (rotM op) s = rotMem op s := by cases op <;> rfl
  have hidx (x : Idx) (d : Byte) : exec (rotX op x d) s = rotIdx op x d s := by cases op <;> rfl
  have hidxReg (x : Idx) (d : Byte) (r : Reg8) : exec (rotXR op x d r) s = rotIdxReg op x d r s := by cases op <;> rfl
  refine ⟨fun r => hreg r, ⟨_, hmem, ?_, storesByte_of_mem hw rfl⟩, fun x d => ⟨_, hidx x d, ?_, storesByte_of_mem hw rfl⟩,
    fun x d r => ⟨_, hidxReg x d r, ?_, storesByte_of_mem hw rfl⟩⟩
  all_goals rw [State.write_eq]; rfl

/-! ## Accumulator and digit rotates (R300 to R303, R313, R314) -/

theorem rotA_spec {op : RotOp} {a f : Byte} {n : Nat} {c : Bool}
    (h : (rotRes op a (flagC f)).1.toNat = n ∧ (rotRes op a (flagC f)).2 = c) :
    (rotA op a f).1 = BitVec.ofNat 8 n ∧
    FlagsAre (rotA op a f).2 (flagS f) (flagZ f) ((rotA op a f).1.getLsbD 5) false ((rotA op a f).1.getLsbD 3) (flagPV f)
      false c := by
  obtain ⟨hres, hcarry⟩ := h
  refine ⟨?_, ?_⟩
  · rw [← hres]
    simp [rotA]
  · rw [← hcarry]
    exact flagsAre_mkF ..

/-- A byte whose low digit is 0 and one whose high digit is 0, put together. -/
theorem or_digits {h l : Byte} (hh : h.toNat % 16 = 0) (hl : l.toNat < 16) : (h ||| l).toNat = h.toNat + l.toNat := by
  have hshift : h.toNat = (h.toNat / 16) <<< 4 := by rw [Nat.shiftLeft_eq]; omega
  rw [BitVec.toNat_or, hshift, ← Nat.shiftLeft_add_eq_or_of_lt hl]

/-- The two digits of a byte and their places, as the masks and shifts of RLD and RRD take them. -/
theorem digit_masks (v : Byte) :
    (v &&& 0xF0).toNat = v.toNat / 16 * 16 ∧ (v &&& 0x0F).toNat = v.toNat % 16 ∧
      (v >>> 4).toNat = v.toNat / 16 ∧ (v <<< 4).toNat = v.toNat % 16 * 16 := by
  revert v
  decide

theorem or_digits_eq {h l : Byte} {m n : Nat} (hh : h.toNat = m * 16) (hl : l.toNat = n) (hn : n < 16) :
    h ||| l = BitVec.ofNat 8 (m * 16 + n) := by
  apply BitVec.eq_of_toNat_eq
  have hlt := h.isLt
  rw [or_digits (by omega) (by omega), hh, hl, BitVec.toNat_ofNat]
  omega

/-- Settles O28: the accumulator rotates are `rotA_spec`, and the digit rotates put digits together by `or_digits_eq`. -/
theorem accumulatorAndDigitRotates : Obligations.AccumulatorAndDigitRotates := by
  unfold Obligations.AccumulatorAndDigitRotates
  refine ⟨fun s => ?accumulator, fun s hw => ?digit⟩
  case accumulator =>
    intro n f c p hp
    have hspec := rotRes_spec s.regs.a (flagC f)
    simp only [List.mem_cons, List.not_mem_nil, or_false] at hp
    obtain ⟨op, hop, hexec⟩ : ∃ op, ((rotRes op s.regs.a (flagC f)).1.toNat = p.2.1 ∧
        (rotRes op s.regs.a (flagC f)).2 = p.2.2) ∧ exec p.1 s = .next ((s.setAF (rotA op s.regs.a f)).addT 4) := by
      obtain rfl | rfl | rfl | rfl := hp
      · exact ⟨.rlc, hspec (.rlc, _, _) (.head _), rfl⟩
      · exact ⟨.rrc, hspec (.rrc, _, _) (.tail _ (.head _)), rfl⟩
      · exact ⟨.rl, hspec (.rl, _, _) (.tail _ (.tail _ (.head _))), rfl⟩
      · exact ⟨.rr, hspec (.rr, _, _) (.tail _ (.tail _ (.tail _ (.head _)))), rfl⟩
    obtain ⟨hres, hflags⟩ := rotA_spec hop
    refine ⟨_, hexec, ?_, hflags⟩
    rw [← hres]
    rfl
  case digit =>
    intro a m p hp
    obtain ⟨haHigh, haLow, -, haShift⟩ := digit_masks s.regs.a
    obtain ⟨-, hmLow, hmHigh, hmShift⟩ := digit_masks (s.read s.regs.hl)
    have ha := s.regs.a.isLt
    have hm := (s.read s.regs.hl).isLt
    simp only [List.mem_cons, List.not_mem_nil, or_false] at hp
    obtain rfl | rfl := hp
    · have hA : s.regs.a &&& 0xF0 ||| s.read s.regs.hl >>> 4 = BitVec.ofNat 8 (a / 16 * 16 + m / 16) :=
        or_digits_eq haHigh hmHigh (by omega)
      have hM : s.read s.regs.hl <<< 4 ||| s.regs.a &&& 0x0F = BitVec.ofNat 8 (m % 16 * 16 + a % 16) :=
        or_digits_eq hmShift haLow (by omega)
      refine ⟨_, rfl, ?_, ?_, flagsAre_szpF ..⟩
      · rw [← hA, State.write_eq]; rfl
      · rw [← hM]; exact storesByte_of_mem hw rfl
    · have hA : s.regs.a &&& 0xF0 ||| s.read s.regs.hl &&& 0x0F = BitVec.ofNat 8 (a / 16 * 16 + m % 16) :=
        or_digits_eq haHigh hmLow (by omega)
      have hM : s.regs.a <<< 4 ||| s.read s.regs.hl >>> 4 = BitVec.ofNat 8 (a % 16 * 16 + m / 16) :=
        or_digits_eq haShift hmHigh (by omega)
      refine ⟨_, rfl, ?_, ?_, flagsAre_szpF ..⟩
      · rw [← hA, State.write_eq]; rfl
      · rw [← hM]; exact storesByte_of_mem hw rfl

/-! ## Bits (R315 to R323) -/

theorem bitF_flagsAre (b : BitVec 3) (v src f : Byte) :
    FlagsAre (bitF b v src f) (b == 7 && v.getLsbD 7) (!v.getLsbD b.toNat) (src.getLsbD 5) true (src.getLsbD 3)
      (!v.getLsbD b.toNat) false (flagC f) := by
  have hsign : (b == 7 && v.getLsbD 7) = (b == 7 && v.getLsbD b.toNat) := by
    by_cases hb : b = 7
    · subst hb; rfl
    · rw [beq_false_of_ne hb]; rfl
  rw [hsign]
  exact flagsAre_mkF ..

/-- The one bit that SET and RES change. -/
theorem getLsbD_one_shiftLeft (b k : BitVec 3) : ((1 : Byte) <<< b.toNat).getLsbD k.toNat = (k == b) := by
  revert b k
  decide

theorem setBit_getLsbD (b k : BitVec 3) (v : Byte) : (setBit b v).getLsbD k.toNat = (k == b || v.getLsbD k.toNat) := by
  rw [setBit, BitVec.getLsbD_or, getLsbD_one_shiftLeft, Bool.or_comm]

theorem resBit_getLsbD (b k : BitVec 3) (v : Byte) : (resBit b v).getLsbD k.toNat = (k != b && v.getLsbD k.toNat) := by
  have hk : decide (k.toNat < 8) = true := decide_eq_true k.isLt
  rw [resBit, BitVec.getLsbD_and, BitVec.getLsbD_not, getLsbD_one_shiftLeft, hk, Bool.true_and, Bool.and_comm, bne]

/-- Settles O29: BIT is `bitF`, and SET and RES put `setBit` or `resBit` of their operand back. -/
theorem bitInstructions : Obligations.BitInstructions := by
  unfold Obligations.BitInstructions
  refine ⟨fun s b => ⟨fun r => ⟨_, rfl, rfl, bitF_flagsAre ..⟩, ⟨_, rfl, rfl, bitF_flagsAre ..⟩,
    fun x d z => ⟨_, rfl, rfl, bitF_flagsAre ..⟩⟩, fun b k v => ⟨setBit_getLsbD b k v, resBit_getLsbD b k v⟩,
    fun s b hw => ⟨fun _ => rfl, fun _ => rfl, ?_, ?_, fun x d => ?_, fun x d => ?_, fun x d r => ?_, fun x d r => ?_⟩⟩
  all_goals exact ⟨_, rfl, by rw [State.write_eq]; rfl, storesByte_of_mem hw rfl⟩

/-! ## Jumps (R340 to R346) -/

/-- Settles O30: each jump by its two paths. -/
theorem jumpsSetPc : Obligations.JumpsSetPc := by
  unfold Obligations.JumpsSetPc
  refine ⟨fun f => ⟨rfl, rfl, rfl, rfl, rfl, rfl, rfl, rfl⟩, fun s => ⟨fun _ => rfl, fun cc nn => ?jpCc, fun _ => rfl,
    fun cc e => ?jrCc, rfl, fun _ => rfl, fun e => ?djnz⟩⟩
  case jpCc =>
    change (if condHolds cc s.regs.f then finish 10 (s.jump nn) else finish 10 (s.setMemptr nn)) = _
    split <;> rfl
  case jrCc =>
    change (if condHolds cc s.regs.f then finish 12 (s.jump (s.relTarget e)) else finish 7 s) = _
    split <;> rfl
  case djnz =>
    have hb : s.regs.b - 1 = 0 ↔ s.regs.b = 1 := by constructor <;> intro h <;> bv_omega
    change (if s.regs.b - 1 = 0 then finish 8 (s.setReg8 .b (s.regs.b - 1))
      else finish 13 ((s.setReg8 .b (s.regs.b - 1)).jump (s.relTarget e))) = _
    by_cases h : s.regs.b = 1
    · rw [if_pos (hb.mpr h), if_pos h, hb.mpr h]; rfl
    · rw [if_neg (mt hb.mp h), if_neg h]; rfl

/-! ## Calls and returns (R347 to R353) -/

/-- Settles O31: a call is one push and a jump. -/
theorem callsPushTheReturnAddress : Obligations.CallsPushTheReturnAddress := by
  unfold Obligations.CallsPushTheReturnAddress
  refine fun s hw => ⟨fun nn => ⟨_, rfl, ?_, storesWord_of_push hw rfl⟩,
    fun cc nn h => ⟨_, if_pos h, ?_, storesWord_of_push hw rfl⟩, fun cc nn h => if_neg (by simp [h]),
    fun p => ⟨_, rfl, ?_, storesWord_of_push hw rfl⟩⟩
  all_goals rw [State.push_eq]; rfl

/-- Settles O32: a return pops PC and the handler's returns copy IFF2. -/
theorem returnsPopPc : Obligations.ReturnsPopPc := by
  unfold Obligations.ReturnsPopPc
  refine fun s => ⟨rfl, fun cc => ?_, rfl, fun _ => rfl⟩
  change (if condHolds cc s.regs.f then finish 11 (s.afterPop.jump s.popped) else finish 5 s) = _
  split <;> rfl

/-! ## CPU control (R354 to R362) -/

theorem edUndefined_of_nop {s : State} (op : Byte) (h : s.params.edUndefined = .nop) :
    edUndefined op s = .next { s with t := s.t + 8 } := by
  rw [edUndefined, h]
  rfl

theorem edUndefined_of_fault {s : State} (op : Byte) (h : s.params.edUndefined = .fault) :
    edUndefined op s = .fault (.undefinedOpcode (s.pc - 2) op) := by
  rw [edUndefined, h]
  rfl

/-- The meaning of an undefined ED opcode, whichever of the four rows it is. -/
theorem exec_undefined {i : Instr} {op : Byte} (s : State) (henc : encode i = [0xED, op])
    (hi : (∃ y, i = .nopEd1 y) ∨ (∃ x, i = .nopEd0 x) ∨ (∃ x, i = .nopEd3 x) ∨ (∃ y z, i = .nopEd2 y z)) :
    exec i s = edUndefined op s := by
  obtain ⟨y, rfl⟩ | ⟨x, rfl⟩ | ⟨x, rfl⟩ | ⟨y, z, rfl⟩ := hi <;>
    obtain rfl := (List.cons.inj (List.cons.inj henc).2).1 <;> rfl

/-- Settles O33: each is `exec` unfolded, an undefined ED opcode by its parameter. -/
theorem cpuControlInstructions : Obligations.CpuControlInstructions := by
  unfold Obligations.CpuControlInstructions
  refine ⟨fun s => ⟨rfl, rfl, rfl, rfl, fun _ => rfl, fun _ => rfl, fun _ => rfl⟩, fun s => ⟨fun _ _ => rfl, fun h => ?nop,
    fun h i op _ henc hi => (exec_undefined s henc hi).trans (edUndefined_of_fault op h)⟩⟩
  case nop =>
    exact ⟨fun y => edUndefined_of_nop _ h, fun x => edUndefined_of_nop _ h, fun x => edUndefined_of_nop _ h,
      fun y z => edUndefined_of_nop _ h⟩

end Sys2Proof.Machine

/-! SUPPORT. The launch state (R551): its memory, and what putting registers in one by one leaves in each. -/

namespace Sys2Proof.Machine

/-! ## Memory from 65536 bytes -/

theorem get_memoryOf (lo k : Nat) (l : List Byte) :
    (memoryOf lo l).get k = if lo ≤ k then l.getD (k - lo) 0 else 0 := by
  induction l generalizing lo with
  | nil => simp [memoryOf, Memory.blank]
  | cons v rest ih =>
    have hrest : k ≠ lo → (memoryOf (lo + 1) rest).get k = if lo ≤ k then (v :: rest).getD (k - lo) 0 else 0 := by
      intro hk
      rw [ih]
      by_cases hlt : lo + 1 ≤ k
      · rw [if_pos hlt, if_pos (by omega), show k - lo = k - (lo + 1) + 1 by omega, List.getD_cons_succ]
      · rw [if_neg hlt, if_neg (by omega)]
    unfold memoryOf
    by_cases hk : k = lo
    · subst hk
      split
      · rename_i hv
        rw [ih, if_neg (by omega), if_pos le_rfl]
        simpa [Memory.blank] using hv.symm
      · simp [Memory.get]
    · split
      · exact hrest hk
      · rw [Memory.get, if_neg (Ne.symm hk)]
        exact hrest hk

theorem wfFrom_memoryOf {lo : Nat} {l : List Byte} (h : lo + l.length ≤ Memory.size) :
    Memory.wfFrom lo (memoryOf lo l) = true := by
  induction l generalizing lo with
  | nil => rfl
  | cons v rest ih =>
    rw [List.length_cons] at h
    have hrest := ih (lo := lo + 1) (by omega)
    unfold memoryOf
    split
    · exact Memory.wfFrom_mono hrest (by omega)
    · exact Memory.wfFrom_cons.mpr ⟨le_rfl, by omega, ‹_›, hrest⟩

/-! ## Registers put in one by one -/

/-- What every register write by identifier keeps, `putRegs` keeps. -/
theorem putRegs_keeps {α : Type} (get : State → α) (hbyte : ∀ s id v, get (State.setByte s id v) = get s)
    (hword : ∀ s id v, get (State.setWord s id v) = get s) (regs : LaunchRegs) (s : State) :
    get (putRegs regs s) = get s := by
  have hb (l : List (ByteId × Byte)) (s : State) : get (l.foldl (fun acc b => acc.setByte b.1 b.2) s) = get s := by
    induction l generalizing s with
    | nil => rfl
    | cons g rest ih => exact (ih _).trans (hbyte s g.1 g.2)
  have hw (l : List (WordId × Word)) (s : State) : get (l.foldl (fun acc w => acc.setWord w.1 w.2) s) = get s := by
    induction l generalizing s with
    | nil => rfl
    | cons g rest ih => exact (ih _).trans (hword s g.1 g.2)
  exact (hw _ _).trans (hb _ _)

theorem foldl_setByte_getByte_other {id : ByteId} (l : List (ByteId × Byte)) (s : State) (h : ∀ g ∈ l, g.1 ≠ id) :
    (l.foldl (fun acc b => acc.setByte b.1 b.2) s).getByte id = s.getByte id := by
  induction l generalizing s with
  | nil => rfl
  | cons g rest ih =>
    obtain ⟨hg, hrest⟩ := List.forall_mem_cons.mp h
    rw [List.foldl_cons, ih _ hrest, State.getByte_setByte, if_neg (Ne.symm hg)]

theorem foldl_setWord_getByte_other {id : ByteId} (l : List (WordId × Word)) (s : State)
    (h : ∀ g ∈ l, id ∉ g.1.halves) : (l.foldl (fun acc w => acc.setWord w.1 w.2) s).getByte id = s.getByte id := by
  induction l generalizing s with
  | nil => rfl
  | cons g rest ih =>
    obtain ⟨hg, hrest⟩ := List.forall_mem_cons.mp h
    rw [List.foldl_cons, ih _ hrest, State.getByte_setWord_other _ _ hg]

theorem foldl_setWord_getWord_other {id : WordId} (l : List (WordId × Word)) (s : State) (h : ∀ g ∈ l, g.1 ≠ id) :
    (l.foldl (fun acc w => acc.setWord w.1 w.2) s).getWord id = s.getWord id := by
  induction l generalizing s with
  | nil => rfl
  | cons g rest ih =>
    obtain ⟨hg, hrest⟩ := List.forall_mem_cons.mp h
    rw [List.foldl_cons, ih _ hrest, State.getWord_setWord, if_neg (Ne.symm hg)]

/-- The last byte given for a register counts, where no pair given holds it. -/
theorem putRegs_getByte {regs : LaunchRegs} {before after : List (ByteId × Byte)} {id : ByteId} {v : Byte} (s : State)
    (h : regs.bytes = before ++ (id, v) :: after) (hafter : ∀ g ∈ after, g.1 ≠ id)
    (hwords : ∀ g ∈ regs.words, id ∉ g.1.halves) : (putRegs regs s).getByte id = v := by
  rw [putRegs, foldl_setWord_getByte_other _ _ hwords, h, List.foldl_append, List.foldl_cons,
    foldl_setByte_getByte_other _ _ hafter, State.getByte_setByte, if_pos rfl]

/-- The last word given for a register counts. -/
theorem putRegs_getWord {regs : LaunchRegs} {before after : List (WordId × Word)} {id : WordId} {v : Word} (s : State)
    (h : regs.words = before ++ (id, v) :: after) (hafter : ∀ g ∈ after, g.1 ≠ id) :
    (putRegs regs s).getWord id = v := by
  rw [putRegs, h, List.foldl_append, List.foldl_cons, foldl_setWord_getWord_other _ _ hafter, State.getWord_setWord,
    if_pos rfl]

theorem putRegs_getByte_none {regs : LaunchRegs} {id : ByteId} (s : State) (hbytes : ∀ g ∈ regs.bytes, g.1 ≠ id)
    (hwords : ∀ g ∈ regs.words, id ∉ g.1.halves) : (putRegs regs s).getByte id = s.getByte id := by
  rw [putRegs, foldl_setWord_getByte_other _ _ hwords, foldl_setByte_getByte_other _ _ hbytes]

theorem putRegs_sp {regs : LaunchRegs} (s : State) (hwords : ∀ g ∈ regs.words, g.1 ≠ .sp) :
    (putRegs regs s).regs.sp = s.regs.sp := by
  have hbytes (l : List (ByteId × Byte)) (s : State) :
      (l.foldl (fun acc b => acc.setByte b.1 b.2) s).regs.sp = s.regs.sp := by
    induction l generalizing s with
    | nil => rfl
    | cons g rest ih => exact (ih _).trans (s.setByte_sp g.1 g.2)
  exact (foldl_setWord_getWord_other (id := .sp) regs.words _ hwords).trans (hbytes regs.bytes s)

theorem launchBase_getByte (regs : LaunchRegs) (mem : Memory) (params : Params) (env : Env) (id : ByteId) :
    (launchBase regs mem params env).getByte id = 0 := by
  have hhi : hiOf 0 = 0 := by decide
  cases id with
  | ixh | iyh => exact hhi
  | _ => rfl

/-- What `putRegs` keeps of the state it starts from: everything but the registers it can name. -/
theorem putRegs_frame (regs : LaunchRegs) (s : State) :
    let t := putRegs regs s
    t.mem = s.mem ∧ t.intBlocked = s.intBlocked ∧ t.iff1 = s.iff1 ∧ t.iff2 = s.iff2 ∧ t.im = s.im ∧ t.memptr = s.memptr ∧
      t.t = s.t ∧ t.halted = s.halted := by
  have h := putRegs_keeps
    (fun u => (u.mem, u.intBlocked, u.iff1, u.iff2, u.im, u.memptr, u.t, u.halted))
    (fun s id v => by cases id <;> rfl) (fun s id v => by cases id <;> rfl) regs s
  simpa using h

/-- A word register other than PC does not see PC. -/
theorem getWord_setPc (s : State) {id : WordId} (v : Word) (h : id ≠ .pc) : (s.setPc v).getWord id = s.getWord id := by
  cases id with
  | pc => exact absurd rfl h
  | _ => rfl

theorem getByte_setPc (s : State) (id : ByteId) (v : Word) : (s.setPc v).getByte id = s.getByte id := by
  cases id <;> rfl

/-- Settles O60: memory by `get_memoryOf`, the registers by what `putRegs` leaves in each. -/
theorem launchBuildsTheStartState : Obligations.LaunchBuildsTheStartState := by
  unfold Obligations.LaunchBuildsTheStartState
  refine ⟨rfl, fun memory regs pc params env => ⟨fun hlen => if_neg hlen, fun hlen => ⟨_, if_pos hlen, ?_, ?_, ?_, ?_, ?_⟩⟩⟩
  · obtain ⟨hmem, hblocked, hiff1, hiff2, him, hmemptr, ht, hhalted⟩ :=
      putRegs_frame regs (launchBase regs (memoryOf 0 memory) params env)
    refine ⟨fun a => ?_, ?_, rfl, hblocked, rfl, hiff1, hiff2, him, hmemptr, ht, hhalted⟩
    · change (putRegs regs _).mem.get a.toNat = _
      rw [hmem]
      exact get_memoryOf 0 a.toNat memory
    · change (putRegs regs _).mem.wf = true
      rw [hmem]
      exact wfFrom_memoryOf (by rw [hlen]; rfl)
  · intro before id v after h hafter hwords
    exact (getByte_setPc _ id pc).trans (putRegs_getByte _ h hafter hwords)
  · intro before id v after h hafter hid
    exact (getWord_setPc _ pc hid).trans (putRegs_getWord _ h hafter)
  · intro id hbytes hwords
    exact (getByte_setPc _ id pc).trans ((putRegs_getByte_none _ hbytes hwords).trans (launchBase_getByte ..))
  · intro hwords
    exact putRegs_sp _ hwords

end Sys2Proof.Machine

/-! SUPPORT. The LD-BYTES trap: the block it chooses, and the state it leaves (R470 to R473). -/

namespace Sys2Proof.Machine

/-! ## The choice (R471) -/

/-- The trap loads this block: it has the expected flag byte and is no truncated header. -/
abbrev Fits (a : Byte) (de : Word) (b : DataBlock) : Prop :=
  b.data.head? = some a ∧ ¬ (a = 0 ∧ de = 17 ∧ b.data.length < 19)

/-- The warning of a block that does not fit. -/
def skipWarning (a : Byte) (b : Nat × DataBlock × Nat) : Warning :=
  match b.2.1.data.head? with
  | none => .emptyBlock b.1
  | some flag => if flag = a then .truncatedHeader b.1 else .flagMismatch b.1 flag a

theorem chooseBlock_ended {a : Byte} {de : Word} {t : Nat} {b : Nat × DataBlock × Nat} (rest : List (Nat × DataBlock × Nat))
    (h : b.2.2 ≤ t) : chooseBlock a de t (b :: rest) = chooseBlock a de t rest := if_pos h

theorem chooseBlock_fits {a : Byte} {de : Word} {t : Nat} {b : Nat × DataBlock × Nat} (rest : List (Nat × DataBlock × Nat))
    (h : ¬ b.2.2 ≤ t) (hf : Fits a de b.2.1) : chooseBlock a de t (b :: rest) = ([], some b.2) := by
  obtain ⟨n, b, dataEnd⟩ := b
  obtain ⟨hhead, htrunc⟩ := hf
  rw [chooseBlock, if_neg h]
  dsimp only at hhead htrunc
  cases hdata : b.data with
  | nil => simp [hdata] at hhead
  | cons flag tail =>
    obtain rfl : flag = a := by simpa [hdata] using hhead
    rw [hdata] at htrunc
    simp only [ne_eq, not_true_eq_false, if_false, if_neg htrunc]

theorem chooseBlock_skip {a : Byte} {de : Word} {t : Nat} {b : Nat × DataBlock × Nat} (rest : List (Nat × DataBlock × Nat))
    (h : ¬ b.2.2 ≤ t) (hf : ¬ Fits a de b.2.1) : chooseBlock a de t (b :: rest) =
      (skipWarning a b :: (chooseBlock a de t rest).1, (chooseBlock a de t rest).2) := by
  obtain ⟨n, b, dataEnd⟩ := b
  rw [chooseBlock, if_neg h, skipWarning]
  dsimp only [Fits] at hf ⊢
  cases hdata : b.data with
  | nil => rfl
  | cons flag tail =>
    rw [hdata] at hf
    by_cases hflag : flag = a
    · have htrunc : a = 0 ∧ de = 17 ∧ (flag :: tail).length < 19 := by
        by_contra hn
        exact hf ⟨by simp [hflag], hn⟩
      simp only [List.head?_cons, hflag, ne_eq, not_true_eq_false, if_false, if_true]
      rw [← hflag, if_pos (hflag ▸ htrunc)]
    · simp only [List.head?_cons, hflag, ne_eq, not_false_eq_true, if_true, if_false]

/-- Settles O55: by induction on the blocks; each is over, or fits and ends the search, or is warned of. -/
theorem trapChoosesTheFirstFittingBlock : Obligations.TrapChoosesTheFirstFittingBlock := by
  unfold Obligations.TrapChoosesTheFirstFittingBlock
  intro a de t blocks
  change (chooseBlock a de t blocks).2 =
      ((blocks.filter (fun b => decide (t < b.2.2))).find? (fun b => decide (Fits a de b.2.1))).map (fun b => b.2) ∧
    (chooseBlock a de t blocks).1 =
      ((blocks.filter (fun b => decide (t < b.2.2))).takeWhile (fun b => !decide (Fits a de b.2.1))).map (skipWarning a)
  induction blocks with
  | nil => exact ⟨rfl, rfl⟩
  | cons b rest ih =>
    obtain ⟨hchosen, hwarned⟩ := ih
    by_cases hend : b.2.2 ≤ t
    · rw [chooseBlock_ended rest hend, List.filter_cons_of_neg (by simpa using hend)]
      exact ⟨hchosen, hwarned⟩
    · rw [List.filter_cons_of_pos (by simpa using hend)]
      by_cases hf : Fits a de b.2.1
      · simp only [chooseBlock_fits rest hend hf, List.find?_cons, List.takeWhile_cons, decide_eq_true hf]
        exact ⟨rfl, rfl⟩
      · simp only [chooseBlock_skip rest hend hf, List.find?_cons, List.takeWhile_cons, decide_eq_false hf]
        exact ⟨hchosen, congrArg _ hwarned⟩

/-! ## The load (R472, R473) -/

theorem add_ofNat_toNat (ix : Word) (j : Nat) : (ix + BitVec.ofNat 16 j - ix).toNat = j % 65536 := by
  have : ix + BitVec.ofNat 16 j - ix = BitVec.ofNat 16 j := by rw [BitVec.add_comm, BitVec.add_sub_cancel]
  rw [this, BitVec.toNat_ofNat]

/-- Two of the first 65536 addresses from `ix` on are the same only where their places are. -/
theorem add_ofNat_ne {ix a : Word} {j : Nat} (hj : j < 65536) (h : (a - ix).toNat ≠ j) : a ≠ ix + BitVec.ofNat 16 j := by
  rintro rfl
  rw [add_ofNat_toNat, Nat.mod_eq_of_lt hj] at h
  exact h rfl

theorem read_loadBytes_other {data : List Byte} {ix a : Word} {n : Nat} {s : State} (hn : n ≤ 65536)
    (h : n ≤ (a - ix).toNat) : (loadBytes data ix n s).read a = s.read a := by
  induction n with
  | zero => rfl
  | succ n ih =>
    rw [loadBytes, State.read_write_other _ _ (add_ofNat_ne (by omega) (by omega))]
    exact ih (by omega) (by omega)

theorem read_loadBytes {data : List Byte} {ix : Word} {n j : Nat} {s : State} (hw : s.mem.wf = true) (hn : n ≤ 65536)
    (hj : j < n) (hrom : s.params.romLimit ≤ (ix + BitVec.ofNat 16 j).toNat) :
    (loadBytes data ix n s).read (ix + BitVec.ofNat 16 j) = padded data (j + 1) := by
  induction n with
  | zero => omega
  | succ n ih =>
    rw [loadBytes]
    by_cases hjn : j = n
    · subst hjn
      have hparams : (loadBytes data ix j s).params = s.params := (loadBytes_keepsRom data ix j s).1
      rw [State.read_write_same _ _ _ (loadBytes_wf hw), hparams, if_neg (by omega)]
    · have hplace : (ix + BitVec.ofNat 16 j - ix).toNat = j := by
        rw [add_ofNat_toNat, Nat.mod_eq_of_lt (by omega)]
      rw [State.read_write_other _ _ (add_ofNat_ne (by omega) (by omega))]
      exact ih (by omega) (by omega)

theorem padded_eq (data : List Byte) (j : Nat) :
    padded data j = if j < data.length then data.getD j 0 else data.getLastD 0 := by
  unfold padded
  split
  · rename_i h
    rw [List.getD_eq_getElem _ _ h, List.getD_eq_getElem _ _ h]
  · rename_i h
    exact List.getD_eq_default _ _ (by omega)

theorem xorBytes_eq_foldl (data : List Byte) (n : Nat) :
    xorBytes data n = (List.range n).foldl (fun acc j => acc ^^^ padded data j) 0 := by
  induction n with
  | zero => rfl
  | succ n ih => rw [xorBytes, ih, List.range_succ, List.foldl_append]; rfl

/-- Carry after the trap: the parity byte of the block is right where the exclusive or of its bytes is 0. -/
theorem flagC_cpF_one (h : Byte) : flagC (cpF h 0x01) = true ↔ h = 0 := by
  rw [(cpF_flagsAre h 0x01).carry, decide_eq_true_eq]
  constructor
  · intro hlt
    exact BitVec.eq_of_toNat_eq (by simpa using hlt)
  · rintro rfl
    decide

theorem loadBlock_eq (b : DataBlock) (dataEnd : Nat) (s : State) :
    let n := s.regs.de.toNat
    let h := xorBytes b.data (n + 2)
    let t := loadBlock b dataEnd s
    t = { s with
      regs := { s.regs with
        a := h, f := cpF h 0x01, b := 0xB0, d := 0, e := 0, h := h, l := padded b.data (n + 1)
        ix := s.regs.ix + s.regs.de, sp := s.regs.sp + 2 }
      pc := t.pc, memptr := t.pc, iff1 := true, iff2 := true, intBlocked := .none, t := max s.t dataEnd
      mem := t.mem, trace := { s.trace with record := none } } := by
  intro n h t
  have hde : BitVec.ofNat 16 s.de.toNat = s.regs.de := by simp [State.de]
  have ht : t = loadBlock b dataEnd s := rfl
  rw [ht, loadBlock, loadBytes_eq, hde]
  rfl

/-- The trap returns to the address on the stack, as memory is after the load. -/
theorem loadBlock_pc (b : DataBlock) (dataEnd : Nat) (s : State) :
    let t := loadBlock b dataEnd s
    t.pc = wordOf (t.read (s.regs.sp + 1)) (t.read s.regs.sp) := by
  have hregs : (loadBytes b.data s.regs.ix s.de.toNat s).regs = s.regs := by rw [loadBytes_eq]
  change (loadBytes b.data s.regs.ix s.de.toNat s).popped = _
  rw [State.popped, hregs]
  rfl

/-- The step of a boundary of a load where the trap is taken. -/
theorem step_eq_trapStep {s : State} {tape : Tape} (hr : s.runStatus = .running) (hl : loadStopHolds s = false)
    (hna : NoAcceptance s) (htape : s.tape = some tape) (htrap : trapTaken s = true) :
    step s = trapStep tape s.nextBoundary := by
  have htrap' : trapTaken s.nextBoundary = true := htrap
  rw [step_eq_boundaryStep hr hl, boundaryStep_of_noAcceptance hna]
  simp [fastLoadStep, htape, htrap']

/-- Settles O54: the step is `trapStep`, and `loadBlock` stores by `read_loadBytes`. -/
theorem trapLoadsTheChosenBlock : Obligations.TrapLoadsTheChosenBlock := by
  unfold Obligations.TrapLoadsTheChosenBlock
  intro s tape hw hr hl hna htape htrap
  have hstep := step_eq_trapStep hr hl hna htape htrap
  refine ⟨fun ws hnone => ?none, ?some⟩
  case none =>
    have hchoice : trapChoice tape s.nextBoundary = (ws, none) := hnone
    rw [hstep, trapStep, hchoice]
    rfl
  case some =>
    intro ws b dataEnd hsome n byte h
    have hchoice : trapChoice tape s.nextBoundary = (ws, some (b, dataEnd)) := hsome
    have hn : n < 65536 := s.regs.de.isLt
    have hbyte (j : Nat) : padded b.data j = byte j := padded_eq b.data j
    have hxor : xorBytes b.data (n + 2) = h := by
      simp only [h, ← hbyte]
      exact xorBytes_eq_foldl ..
    have heq := loadBlock_eq b dataEnd s.nextBoundary
    dsimp only at heq
    refine ⟨{ loadBlock b dataEnd s.nextBoundary with warnings := s.warnings ++ ws }, ?_, ?_,
      loadBlock_pc b dataEnd s.nextBoundary, fun j hj hrom => ?_,
      fun a ha => ?_, ?_⟩
    · rw [hstep, trapStep, hchoice]
      rfl
    · rw [← hxor, ← hbyte, heq]
      rfl
    · exact (read_loadBytes (s := s.nextBoundary) hw hn.le hj hrom).trans (hbyte _)
    · exact read_loadBytes_other (s := s.nextBoundary) hn.le ha
    · rw [← hxor]
      exact flagC_cpF_one _

end Sys2Proof.Machine

/-! SUPPORT. The tape: the counted edges and the last one, and the decoding of a container record by record
(R403 to R425). -/

namespace Sys2Proof.Machine

/-! ## Edges (R420, R421, R423) -/

/-- `tonesUpTo` counts the listed times at or before `t`. -/
theorem tonesUpTo_eq_countP {len : Nat} (n tau t : Nat) (hlen : len ≠ 0) :
    tonesUpTo n len tau t = ((List.range n).map (fun i => tau + i * len)).countP (fun e => decide (e ≤ t)) := by
  induction n with
  | zero => simp [tonesUpTo]
  | succ n ih =>
    rw [List.range_succ, List.map_append, List.countP_append, ← ih]
    have hdiv : n ≤ (t - tau) / len ↔ n * len ≤ t - tau := Nat.le_div_iff_mul_le (Nat.pos_of_ne_zero hlen)
    by_cases htau : t < tau
    · have hlate : ¬ tau + n * len ≤ t := by omega
      simp [tonesUpTo, htau, hlate]
    · by_cases hn : n * len ≤ t - tau
      · have hearly : tau + n * len ≤ t := by omega
        have := hdiv.mpr hn
        simp only [tonesUpTo, htau, if_false, List.map_cons, List.map_nil, List.countP_cons, List.countP_nil, hearly,
          decide_true, if_true]
        omega
      · have hlate : ¬ tau + n * len ≤ t := by omega
        have := mt hdiv.mp hn
        simp only [tonesUpTo, htau, if_false, List.map_cons, List.map_nil, List.countP_cons, List.countP_nil, hlate,
          decide_false, Bool.false_eq_true]
        omega

theorem edgeCountFrom_eq_countP (segs : List Segment) (tau : Nat) (prev : Bool) (t : Nat) :
    edgeCountFrom segs tau prev t = (edgesFrom segs tau prev).countP (fun e => decide (e ≤ t)) := by
  have hlast (tau : Nat) (prev : Bool) : (if (prev && decide (tau ≤ t)) = true then 1 else 0) =
      (if prev then [tau] else []).countP (fun e => decide (e ≤ t)) := by
    cases prev <;> simp [List.countP_cons]
  induction segs generalizing tau prev with
  | nil => exact hlast tau prev
  | cons seg rest ih =>
    cases seg with
    | tones n len =>
      by_cases h : n = 0 ∨ len = 0
      · simp only [edgeCountFrom, edgesFrom, if_pos h, ih]
      · simp only [edgeCountFrom, edgesFrom, if_neg h, List.countP_append, ih]
        rw [tonesUpTo_eq_countP n tau t (fun h0 => h (.inr h0))]
    | hold d =>
      by_cases h : d = 0
      · simp only [edgeCountFrom, edgesFrom, if_pos h, ih]
      · simp only [edgeCountFrom, edgesFrom, if_neg h, List.countP_append, ih, hlast]

theorem getLastD_append {α : Type} (l l' : List α) (d : α) : (l ++ l').getLastD d = l'.getLastD (l.getLastD d) := by
  rw [List.getLastD_eq_getLast?, List.getLast?_append, List.getLastD_eq_getLast?, List.getLastD_eq_getLast?]
  cases l'.getLast? <;> simp

theorem lastEdgeFrom_eq_getLastD (segs : List Segment) (tau : Nat) (prev : Bool) (last : Nat) :
    lastEdgeFrom segs tau prev last = (edgesFrom segs tau prev).getLastD last := by
  have hlast (tau last : Nat) (prev : Bool) : (if prev then tau else last) = (if prev then [tau] else []).getLastD last := by
    cases prev <;> rfl
  induction segs generalizing tau prev last with
  | nil => exact hlast tau last prev
  | cons seg rest ih =>
    cases seg with
    | tones n len =>
      by_cases h : n = 0 ∨ len = 0
      · simp only [lastEdgeFrom, edgesFrom, if_pos h, ih]
      · obtain ⟨k, rfl⟩ : ∃ k, n = k + 1 := ⟨n - 1, by omega⟩
        simp only [lastEdgeFrom, edgesFrom, if_neg h, getLastD_append, ih]
        rw [List.range_succ, List.map_append, getLastD_append]
        rfl
    | hold d =>
      by_cases h : d = 0
      · simp only [lastEdgeFrom, edgesFrom, if_pos h, ih]
      · simp only [lastEdgeFrom, edgesFrom, if_neg h, getLastD_append, ih, hlast]

/-- Settles O52: the count and the last edge are those of the list, and the port answers by the parity. -/
theorem tapeLevelAndItsPort : Obligations.TapeLevelAndItsPort := by
  unfold Obligations.TapeLevelAndItsPort
  refine ⟨fun perMs t tape => ⟨?_, lastEdgeFrom_eq_getLastD ..⟩, fun s tape port htape hula => ?port⟩
  · rw [Tape.ear, edgeCountFrom_eq_countP]
    rfl
  case port =>
    simp only [State.portByte, htape, State.tapePortByte, hula, Tape.portAnswer]
    cases port.getLsbD 0
    · cases tape.ear s.params.tstatesPerMs s.t <;> decide
    · rfl

/-! ## TAP records (R403, R415) -/

theorem tapRecord_length (data : List Byte) : (tapRecord data).length = data.length + 2 := rfl

/-- One record is one block, and decoding goes on after it. -/
theorem decodeTapFrom_record {data : List Byte} (fuel pos : Nat) (rest : List Byte) (h : data.length < 65536) :
    decodeTapFrom (fuel + 1) pos (tapRecord data ++ rest) =
      (decodeTapFrom fuel (pos + (tapRecord data).length) rest).map (fun blocks => stdBlock 1000 data .tap :: blocks) := by
  have hlen : (BitVec.ofNat 8 data.length : Byte).toNat + 256 * (BitVec.ofNat 8 (data.length / 256) : Byte).toNat =
      data.length := by
    simp only [BitVec.toNat_ofNat]
    omega
  have hpos : pos + 2 + data.length = pos + (tapRecord data).length := by rw [tapRecord_length]; omega
  have hfits : ¬ (data ++ rest).length < data.length := by rw [List.length_append]; omega
  rw [← hpos, tapRecord, List.cons_append, List.cons_append, decodeTapFrom]
  simp only [hlen, if_neg hfits, List.drop_left, List.take_left]
  cases decodeTapFrom fuel (pos + 2 + data.length) rest <;> rfl

theorem decodeTapFrom_records {records : List (List Byte)} (fuel pos : Nat) (tail : List Byte)
    (h : ∀ r ∈ records, r.length < 65536) :
    decodeTapFrom (records.length + fuel) pos (records.flatMap tapRecord ++ tail) =
      (decodeTapFrom fuel (pos + (records.flatMap tapRecord).length) tail).map
        (fun blocks => records.map (fun r => stdBlock 1000 r .tap) ++ blocks) := by
  induction records generalizing pos with
  | nil =>
    simp only [List.length_nil, Nat.zero_add, List.flatMap_nil, List.nil_append, Nat.add_zero, List.map_nil]
    cases decodeTapFrom fuel pos tail <;> rfl
  | cons r rest ih =>
    obtain ⟨hr, hrest⟩ := List.forall_mem_cons.mp h
    rw [List.flatMap_cons, List.append_assoc, List.length_cons, Nat.add_right_comm, decodeTapFrom_record _ _ _ hr,
      ih _ hrest, List.length_append, Nat.add_assoc]
    cases decodeTapFrom fuel (pos + ((tapRecord r).length + (rest.flatMap tapRecord).length)) tail <;> rfl

theorem length_le_flatMap_tapRecord (records : List (List Byte)) :
    records.length ≤ (records.flatMap tapRecord).length := by
  induction records with
  | nil => exact le_rfl
  | cons r rest ih =>
    rw [List.flatMap_cons, List.length_append, tapRecord_length, List.length_cons]
    omega

/-- A container of records and a tail: the fuel of `decodeTap` is enough to come to the tail. -/
theorem decodeTap_records {records : List (List Byte)} (tail : List Byte) (h : ∀ r ∈ records, r.length < 65536) :
    ∃ fuel, decodeTap (records.flatMap tapRecord ++ tail) =
      (decodeTapFrom (fuel + 1) (records.flatMap tapRecord).length tail).map
        (fun blocks => records.map (fun r => stdBlock 1000 r .tap) ++ blocks) := by
  have hlen := length_le_flatMap_tapRecord records
  obtain ⟨fuel, hfuel⟩ : ∃ fuel, (records.flatMap tapRecord ++ tail).length + 1 = records.length + (fuel + 1) :=
    ⟨(records.flatMap tapRecord ++ tail).length - records.length, by rw [List.length_append]; omega⟩
  exact ⟨fuel, by rw [decodeTap, hfuel, decodeTapFrom_records _ _ _ h, Nat.zero_add]⟩

theorem decodeTapFrom_truncated {tail : List Byte} (fuel pos : Nat)
    (h : tail.length = 1 ∨ ∃ lo hi rest, tail = lo :: hi :: rest ∧ rest.length < lo.toNat + 256 * hi.toNat) :
    decodeTapFrom (fuel + 1) pos tail = .error (.truncated pos) := by
  obtain h1 | ⟨lo, hi, rest, rfl, hrest⟩ := h
  · obtain ⟨v, rfl⟩ := List.length_eq_one_iff.mp h1
    rfl
  · rw [decodeTapFrom]
    exact if_pos hrest

/-! ## TZX records (R406, R412, R414, R415) -/

/-- A field that lies inside a list lies in any longer one. -/
theorem leField_append {bytes : List Byte} {off n v : Nat} (rest : List Byte) (h : leField bytes off n = some v) :
    leField (bytes ++ rest) off n = some v := by
  induction n generalizing off v with
  | zero => exact h
  | succ n ih =>
    rw [leField] at h ⊢
    split at h
    · rename_i b r hb hr
      have hoff : off < bytes.length := (List.getElem?_eq_some_iff.mp hb).1
      rw [List.getElem?_append_left hoff, hb, ih hr]
      exact h
    · cases h

/-- One record gives its blocks, and decoding goes on after it. -/
theorem decodeTzxFrom_record {unsupported record : List Byte} (fuel pos : Nat) (rest : List Byte)
    (h : IsTzxRecord unsupported record) :
    decodeTzxFrom unsupported (fuel + 1) pos (record ++ rest) =
      (decodeTzxFrom unsupported fuel (pos + record.length) rest).map (fun blocks => recordBlocks record ++ blocks) := by
  obtain ⟨id, body, row, n, rfl, hsupported, hrow, hfield, hlen⟩ := h
  have hfits : ¬ (body ++ rest).length < body.length := by rw [List.length_append]; omega
  have hpos : pos + 1 + body.length = pos + (id :: body).length := by rw [List.length_cons]; omega
  rw [← hpos, List.cons_append, decodeTzxFrom]
  simp only [hsupported, Bool.false_eq_true, if_false, hrow, leField_append rest hfield, ← hlen, if_neg hfits,
    List.drop_left, List.take_left]
  cases decodeTzxFrom unsupported fuel (pos + 1 + body.length) rest <;> rfl

theorem decodeTzxFrom_records {unsupported : List Byte} {records : List (List Byte)} (fuel pos : Nat) (tail : List Byte)
    (h : ∀ r ∈ records, IsTzxRecord unsupported r) :
    decodeTzxFrom unsupported (records.length + fuel) pos (records.flatten ++ tail) =
      (decodeTzxFrom unsupported fuel (pos + records.flatten.length) tail).map
        (fun blocks => records.flatMap recordBlocks ++ blocks) := by
  induction records generalizing pos with
  | nil =>
    simp only [List.length_nil, Nat.zero_add, List.flatten_nil, List.nil_append, Nat.add_zero, List.flatMap_nil]
    cases decodeTzxFrom unsupported fuel pos tail <;> rfl
  | cons r rest ih =>
    obtain ⟨hr, hrest⟩ := List.forall_mem_cons.mp h
    rw [List.flatten_cons, List.append_assoc, List.length_cons, Nat.add_right_comm, decodeTzxFrom_record _ _ _ hr,
      ih _ hrest, List.length_append, Nat.add_assoc]
    cases decodeTzxFrom unsupported fuel (pos + (r.length + rest.flatten.length)) tail with
    | error e => rfl
    | ok blocks => simp [Except.map]

theorem length_le_flatten {unsupported : List Byte} {records : List (List Byte)}
    (h : ∀ r ∈ records, IsTzxRecord unsupported r) : records.length ≤ records.flatten.length := by
  induction records with
  | nil => exact le_rfl
  | cons r rest ih =>
    obtain ⟨⟨id, body, -, -, rfl, -⟩, hrest⟩ := List.forall_mem_cons.mp h
    have := ih hrest
    rw [List.flatten_cons, List.length_append, List.length_cons, List.length_cons]
    omega

/-- The ten bytes before the first record: the signature and the version. -/
def tzxHeader (major minor : Byte) : List Byte := tzxSignature ++ [major, minor]

theorem decodeTzx_header (unsupported : List Byte) (major minor : Byte) (rest : List Byte) :
    decodeTzx unsupported (tzxHeader major minor ++ rest) =
      decodeTzxFrom unsupported (rest.length + 11) 10 rest := by
  have hlen : (tzxHeader major minor ++ rest).length = rest.length + 10 := by
    simp [tzxHeader, tzxSignature]
  have hsig : (tzxHeader major minor ++ rest).take 8 = tzxSignature := rfl
  have hdrop : (tzxHeader major minor ++ rest).drop 10 = rest := rfl
  rw [decodeTzx, if_neg (by rw [hlen, hsig]; simp), hlen, hdrop]

/-- A container of records and a tail: the fuel of `decodeTzx` is enough to come to the tail. -/
theorem decodeTzx_records {unsupported : List Byte} {records : List (List Byte)} (major minor : Byte) (tail : List Byte)
    (h : ∀ r ∈ records, IsTzxRecord unsupported r) :
    ∃ fuel, decodeTzx unsupported (tzxHeader major minor ++ records.flatten ++ tail) =
      (decodeTzxFrom unsupported (fuel + 1) (tzxHeader major minor ++ records.flatten).length tail).map
        (fun blocks => records.flatMap recordBlocks ++ blocks) := by
  have hlen := length_le_flatten h
  obtain ⟨fuel, hfuel⟩ : ∃ fuel, (records.flatten ++ tail).length + 11 = records.length + (fuel + 1) :=
    ⟨(records.flatten ++ tail).length + 10 - records.length, by rw [List.length_append]; omega⟩
  refine ⟨fuel, ?_⟩
  rw [List.append_assoc, decodeTzx_header, hfuel, decodeTzxFrom_records _ _ _ h, List.length_append]
  rfl

/-- The first bad record: its field does not lie in the container, or the body does not. -/
theorem decodeTzxFrom_truncated {unsupported body : List Byte} {id : Byte} {row : TzxRow} (fuel pos : Nat)
    (hsupported : unsupported.contains id = false) (hrow : tzxRow id = some row)
    (h : ∀ n, leField body row.fieldOff row.fieldLen = some n → body.length < row.base + row.mult * n) :
    decodeTzxFrom unsupported (fuel + 1) pos (id :: body) = .error (.truncated pos) := by
  rw [decodeTzxFrom]
  simp only [hsupported, Bool.false_eq_true, if_false, hrow]
  split
  · rfl
  · rename_i n hn
    exact if_pos (h n hn)

/-- Settles O53: the good records by `decodeTap_records` and `decodeTzx_records`, the record after them by its first test that
fails. -/
theorem tapeContainersDecodeInOrder : Obligations.TapeContainersDecodeInOrder := by
  unfold Obligations.TapeContainersDecodeInOrder
  refine ⟨fun unsupported records h => ⟨?tapGood, fun tail htail => ?tapBad⟩, fun unsupported bytes h => if_pos h, ?tzx⟩
  case tapGood =>
    obtain ⟨fuel, hdecode⟩ := decodeTap_records [] h
    rw [List.append_nil] at hdecode
    exact hdecode.trans (by simp [decodeTapFrom, Except.map])
  case tapBad =>
    obtain ⟨fuel, hdecode⟩ := decodeTap_records tail h
    rw [decodeTapFrom_truncated _ _ htail] at hdecode
    exact hdecode
  case tzx =>
    intro unsupported major minor records h good
    have hbad (tail : List Byte) (e : Nat → TapeError)
        (htail : ∀ fuel pos, decodeTzxFrom unsupported (fuel + 1) pos tail = .error (e pos)) :
        decodeTape unsupported .tzx (good ++ tail) = .error (e good.length) := by
      obtain ⟨fuel, hdecode⟩ := decodeTzx_records major minor tail h
      rw [htail] at hdecode
      exact hdecode
    refine ⟨?_, fun id body => ⟨fun hid => ?_, fun hid hrow => ?_, fun row hid hrow hfield => ?_⟩⟩
    · obtain ⟨fuel, hdecode⟩ := decodeTzx_records major minor [] h
      rw [List.append_nil] at hdecode
      exact hdecode.trans (by simp [decodeTzxFrom, Except.map])
    · exact hbad (id :: body) _ fun fuel pos => if_pos hid
    · exact hbad (id :: body) _ fun fuel pos => by simp only [decodeTzxFrom, hid, Bool.false_eq_true, if_false, hrow]
    · exact hbad (id :: body) _ fun fuel pos => decodeTzxFrom_truncated fuel pos hid hrow hfield

end Sys2Proof.Machine

/-! SUPPORT. The accelerator step: when it is taken, and the iterations it commits (48_fast_load.md, R456, R460 to R466). -/

namespace Sys2Proof.Machine

/-! ## When it is taken (R456, R461) -/

theorem activeAccelerator_eq_some {s : State} {a : Accelerator} : activeAccelerator s = some a ↔ IsActive s a := by
  simp only [activeAccelerator, List.find?_eq_some_iff_append, IsActive]
  constructor
  · rintro ⟨hm, before, after, he, hb⟩
    exact ⟨before, after, he, fun b hmem => by simpa using hb b hmem, hm⟩
  · rintro ⟨before, after, he, hb, hm⟩
    exact ⟨hm, before, after, he, fun b hmem => by simpa using hb b hmem⟩

/-- The accelerator step at a boundary where it can be taken, in terms of the active entry's loop (R461, R462). -/
theorem acceleratorStep_of_active {tape : Tape} {s : State} {a : Accelerator} (hh : s.halted = false)
    (hi : s.iff1 = false) (ha : IsActive s a) (hl : (iteration a s).isSome = true) :
    acceleratorStep tape false s =
      if tape.lastEdge s.params.tstatesPerMs ≤ s.t + a.inTime then some (.fault (.unexpectedEndOfTape s.pc s.t))
      else some ((loopIterations a (loopFuel (tape.lastEdge s.params.tstatesPerMs) s.t) s).elim
        (.fault (.unexpectedEndOfTape s.pc s.t)) (fun u => .next { u with trace := { s.trace with record := none } })) := by
  obtain ⟨u, hu⟩ := Option.isSome_iff_exists.mp hl
  simp only [acceleratorStep, hh, hi, activeAccelerator_eq_some.mpr ha, hu, Bool.or_false, Bool.false_eq_true, if_false]
  cases loopIterations a (loopFuel (tape.lastEdge s.params.tstatesPerMs) s.t) s <;> rfl

theorem acceleratorStep_isSome_of_active {tape : Tape} {s : State} {a : Accelerator} (hh : s.halted = false)
    (hi : s.iff1 = false) (ha : IsActive s a) (hl : (iteration a s).isSome = true) :
    (acceleratorStep tape false s).isSome = true := by
  rw [acceleratorStep_of_active hh hi ha hl]
  split <;> rfl

theorem acceleratorStep_isSome {tape : Tape} {nmi : Bool} {s : State} :
    (acceleratorStep tape nmi s).isSome = true ↔
      s.halted = false ∧ s.iff1 = false ∧ nmi = false ∧ ∃ a, IsActive s a ∧ (iteration a s).isSome = true := by
  constructor
  · intro h
    unfold acceleratorStep at h
    split at h
    · cases h
    · rename_i hcond
      simp only [Bool.or_eq_true, not_or, Bool.not_eq_true] at hcond
      obtain ⟨⟨hh, hi⟩, hn⟩ := hcond
      split at h
      · cases h
      · rename_i a ha
        refine ⟨hh, hi, hn, a, activeAccelerator_eq_some.mp ha, ?_⟩
        cases hit : iteration a s with
        | none => rw [hit] at h; cases h
        | some u => rfl
  · rintro ⟨hh, hi, rfl, a, ha, hl⟩
    exact acceleratorStep_isSome_of_active hh hi ha hl

/-! ## The iterations it commits (R461) -/

theorem loopIterations_of_iterations {a : Accelerator} {n k : Nat} {s u : State} (hk : k ≤ n)
    (h : iterations a k s = some u) (hu : iteration a u = none) : loopIterations a n s = some u := by
  induction k generalizing n s with
  | zero =>
    cases h
    cases n <;> simp [loopIterations, hu]
  | succ k ih =>
    obtain ⟨m, rfl⟩ : ∃ m, n = m + 1 := ⟨n - 1, by omega⟩
    simp only [iterations] at h
    split at h
    · rename_i s1 hs1
      simp only [loopIterations, hs1]
      exact ih (by omega) h
    · cases h

theorem iterations_of_loopIterations {a : Accelerator} {n : Nat} {s u : State} (h : loopIterations a n s = some u) :
    ∃ k, k ≤ n ∧ iterations a k s = some u := by
  induction n generalizing s with
  | zero =>
    simp only [loopIterations] at h
    split at h
    · cases h
    · exact ⟨0, le_rfl, h⟩
  | succ n ih =>
    simp only [loopIterations] at h
    split at h
    · rename_i s1 hs1
      obtain ⟨k, hk, hit⟩ := ih h
      exact ⟨k + 1, by omega, by simp only [iterations, hs1]; exact hit⟩
    · exact ⟨0, by omega, h⟩

/-- A loop that goes on through all the iterations allowed is none that ends. -/
theorem loopIterations_eq_none {a : Accelerator} {n : Nat} {s : State}
    (h : ∀ k, k ≤ n → ∀ u, iterations a k s = some u → iteration a u ≠ none) : loopIterations a n s = none := by
  cases hl : loopIterations a n s with
  | none => rfl
  | some u =>
    obtain ⟨k, hk, hit⟩ := iterations_of_loopIterations hl
    exact absurd (loopIterations_spec hl).2 (h k hk u hit)

/-! ## Iterations are instruction steps (R460, R466) -/

theorem instructionSteps_add {m n : Nat} {s u t : State} (hu : instructionSteps m s = some u)
    (ht : instructionSteps n u = some t) : instructionSteps (m + n) s = some t := by
  induction m generalizing s with
  | zero => cases hu; simpa using ht
  | succ m ih =>
    rw [Nat.succ_add]
    simp only [instructionSteps] at hu ⊢
    cases hs : instructionStep s with
    | next s1 => rw [hs] at hu; exact ih hu
    | fault f => rw [hs] at hu; cases hu
    | refused r => rw [hs] at hu; cases hu

theorem iterateFrom_instructionSteps {len : Nat} {l : Word} {fuel : Nat} {s u : State}
    (h : iterateFrom len l fuel s = some u) : ∃ n, 1 ≤ n ∧ instructionSteps n s = some u := by
  induction fuel generalizing s with
  | zero => cases h
  | succ fuel ih =>
    obtain ⟨s1, he, ⟨-, rfl⟩ | ⟨-, -, -, hrest⟩⟩ := iterateFrom_cases h
    · exact ⟨1, le_rfl, by simp [instructionSteps, he]⟩
    · obtain ⟨n, hn, hsteps⟩ := ih hrest
      exact ⟨n + 1, by omega, by simpa [instructionSteps, he] using hsteps⟩

theorem iteration_instructionSteps {a : Accelerator} {s u : State} (h : iteration a s = some u) :
    ∃ n, 1 ≤ n ∧ instructionSteps n s = some u := by
  unfold iteration at h
  split at h
  · cases h
  · exact iterateFrom_instructionSteps h

theorem iterations_instructionSteps {a : Accelerator} {k : Nat} {s u : State} (h : iterations a k s = some u) :
    u.pc = s.pc ∧ ∃ n, k ≤ n ∧ instructionSteps n s = some u := by
  induction k generalizing s with
  | zero => cases h; exact ⟨rfl, 0, le_rfl, rfl⟩
  | succ k ih =>
    simp only [iterations] at h
    split at h
    · rename_i s1 hs1
      obtain ⟨m, hm, hfirst⟩ := iteration_instructionSteps hs1
      obtain ⟨hpc, n, hn, hrest⟩ := ih h
      exact ⟨hpc.trans (iteration_pc hs1), m + n, by omega, instructionSteps_add hfirst hrest⟩
    · cases h

/-! ## The step (R170 row 3) -/

theorem step_of_acceleratorStep {s : State} {tape : Tape} {r : Result} (hr : s.runStatus = .running)
    (ht : s.tape = some tape) (hl : loadStopHolds s = false) (hn : NoAcceptance s) (htrap : trapTaken s = false)
    (h : acceleratorStep tape s.nmiRequest s.nextBoundary = some r) : step s = r := by
  have hfast : fastLoadStep s.nmiRequest s.nextBoundary = some r := by
    have htape : s.nextBoundary.tape = some tape := ht
    have htrap' : trapTaken s.nextBoundary = false := htrap
    simp only [fastLoadStep, htape, htrap', Bool.false_eq_true, if_false, h]
  rw [step_eq_boundaryStep hr hl, boundaryStep_of_noAcceptance hn, hfast]
  rfl

/-- Settles O56, by the loop of the accelerator step against the iterations one by one, and an iteration against the
instruction steps it is made of. -/
theorem acceleratorStepEqualsItsInstructions : Obligations.AcceleratorStepEqualsItsInstructions := by
  unfold Obligations.AcceleratorStepEqualsItsInstructions
  refine ⟨fun _ _ _ => acceleratorStep_isSome, fun _ _ _ hr ht hl hn htrap h => step_of_acceleratorStep hr ht hl hn htrap h,
    ?loop, fun _ _ _ _ h => iterations_instructionSteps h⟩
  case loop =>
    intro tape s a hh hi ha hl lastEdge endOfTape
    refine ⟨fun hle => ?_, fun hlt k u hk hu hend => ?_, fun hlt hgoes => ?_⟩
    · rw [acceleratorStep_of_active hh hi ha hl, if_pos hle]
    · rw [acceleratorStep_of_active hh hi ha hl, if_neg (by omega), loopIterations_of_iterations hk hu hend, Option.elim_some]
    · rw [acceleratorStep_of_active hh hi ha hl, if_neg (by omega), loopIterations_eq_none hgoes, Option.elim_none]

end Sys2Proof.Machine

/-! SUPPORT. The iteration of the ROM's edge loop, instruction by instruction (48_fast_load.md, R453, R455, R464). -/

namespace Sys2Proof.Machine

/-! ## Instruction steps inside a loop (R460) -/

/-- The M1 fetches of the instruction steps that start from these states (R172). -/
def pathM1 (path : List State) : Nat := (path.map (fun x => x.fetched.m1)).sum

/-- The times of their port reads (R174). -/
def pathReads (path : List State) : List Nat := (path.filter (fun x => readsPort x.fetched)).map (fun x => x.t)

theorem pathM1_cons (x : State) (path : List State) : pathM1 (x :: path) = x.fetched.m1 + pathM1 path := by
  rw [pathM1, List.map_cons, List.sum_cons, ← pathM1]

theorem pathReads_cons (x : State) (path : List State) :
    pathReads (x :: path) = (if readsPort x.fetched then [x.t] else []) ++ pathReads path := by
  simp only [pathReads, List.filter_cons]
  split <;> rfl

/-- `n` instruction steps, of one M1 fetch each and with port reads at the times `reads`, lead from `s` to `u` inside the loop:
the
rest of the iteration from `s` is theirs and then the rest of the iteration from `u`. -/
structure LeadsInside (len : Nat) (l : Word) (s : State) (n : Nat) (reads : List Nat) (u : State) : Prop where
  iterate : ∀ fuel, iterateFrom len l (n + fuel) s = iterateFrom len l fuel u
  m1 : ∀ fuel, pathM1 (pathFrom len l (n + fuel) s) = n + pathM1 (pathFrom len l fuel u)
  portReads : ∀ fuel, pathReads (pathFrom len l (n + fuel) s) = reads ++ pathReads (pathFrom len l fuel u)

theorem LeadsInside.refl (len : Nat) (l : Word) (s : State) : LeadsInside len l s 0 [] s :=
  ⟨fun fuel => by rw [Nat.zero_add], fun fuel => by rw [Nat.zero_add, Nat.zero_add],
    fun fuel => by rw [Nat.zero_add, List.nil_append]⟩

theorem ne_of_offset_pos {l pc : Word} (h : 0 < (pc - l).toNat) : pc ≠ l := by
  rintro rfl
  rw [BitVec.sub_self] at h
  cases h

theorem iterateFrom_inside {len fuel : Nat} {l : Word} {s u : State} (h : instructionStep s = .next u)
    (hpos : 0 < (u.pc - l).toNat) (hlen : (u.pc - l).toNat < len) (hh : u.halted = false) :
    iterateFrom len l (fuel + 1) s = iterateFrom len l fuel u := by
  have hin : insideLoop len l u.pc = true := decide_eq_true hlen
  simp [iterateFrom, h, ne_of_offset_pos hpos, hin, hh]

theorem pathFrom_inside {len fuel : Nat} {l : Word} {s u : State} (h : instructionStep s = .next u)
    (hpos : 0 < (u.pc - l).toNat) (hlen : (u.pc - l).toNat < len) :
    pathFrom len l (fuel + 1) s = s :: pathFrom len l fuel u := by
  have hin : insideLoop len l u.pc = true := decide_eq_true hlen
  simp [pathFrom, h, ne_of_offset_pos hpos, hin]

theorem LeadsInside.step {len n : Nat} {l : Word} {reads : List Nat} {s x u : State} (h : LeadsInside len l s n reads x)
    (hm : x.fetched.m1 = 1) (hstep : instructionStep x = .next u) (hpos : 0 < (u.pc - l).toNat)
    (hlen : (u.pc - l).toNat < len) (hh : u.halted = false) :
    LeadsInside len l s (n + 1) (reads ++ if readsPort x.fetched then [x.t] else []) u where
  iterate fuel := by
    rw [Nat.add_assoc, Nat.add_comm 1, h.iterate, iterateFrom_inside hstep hpos hlen hh]
  m1 fuel := by
    rw [Nat.add_assoc, Nat.add_comm 1, h.m1, pathFrom_inside hstep hpos hlen, pathM1_cons, hm, Nat.add_assoc]
  portReads fuel := by
    rw [Nat.add_assoc, Nat.add_comm 1, h.portReads, pathFrom_inside hstep hpos hlen, pathReads_cons, List.append_assoc]

theorem iterateFrom_back {len fuel : Nat} {l : Word} {s u : State} (h : instructionStep s = .next u) (hp : u.pc = l) :
    iterateFrom len l (fuel + 1) s = some u := by
  simp [iterateFrom, h, hp]

theorem pathFrom_back {len fuel : Nat} {l : Word} {s u : State} (h : instructionStep s = .next u) (hp : u.pc = l) :
    pathFrom len l (fuel + 1) s = [s] := by
  simp [pathFrom, h, hp]

theorem iterateFrom_outside {len fuel : Nat} {l : Word} {s u : State} (h : instructionStep s = .next u)
    (hp : len ≤ (u.pc - l).toNat) (hlen : len ≠ 0) : iterateFrom len l (fuel + 1) s = none := by
  have hne : u.pc ≠ l := ne_of_offset_pos (Nat.lt_of_lt_of_le (Nat.pos_of_ne_zero hlen) hp)
  have hout : insideLoop len l u.pc = false := by simpa only [insideLoop, decide_eq_false_iff_not, Nat.not_lt] using hp
  simp [iterateFrom, h, hne, hout]

/-! ## A step in the tape-loading environment (R175, R176, log 26) -/

theorem instructionStep_of_tape {x u : State} {tape : Tape} {i : Instr} (hf : x.fetched = i)
    (he : exec i (x.afterFetch i) = .next u) (ht : u.tape = some tape) :
    ∃ trace runStatus, instructionStep x = .next { u with trace := trace, runStatus := runStatus } ∧
      (u.trace.stopPending = false → trace.stopPending = false ∧ runStatus = u.runStatus) := by
  simp only [instructionStep, hf, he, State.recorded, State.tracerCall_settle, ht, Option.isNone_some, Bool.false_eq_true,
    if_false, Bool.false_and, Bool.or_false]
  exact ⟨_, _, rfl, fun hstop => ⟨rfl, by rw [hstop]; rfl⟩⟩

theorem State.tracerCall_of_tape {s : State} {tape : Tape} (ht : s.tape = some tape) (call : Nat) :
    s.tracerCall call = s := by
  unfold tracerCall
  split
  · rfl
  · rename_i hnone
    rw [ht] at hnone
    cases hnone

theorem State.afterPortRead_of_ula {s : State} {tape : Tape} (ht : s.tape = some tape) (hp : s.params.portRead = .ula) :
    s.afterPortRead = s := by
  have hports : s.portsAsked = s.env.ports := by
    cases h : s.env.ports <;> simp [portsAsked, platformAnswers, ht, hp, h]
  rw [afterPortRead, hports, tracerCall_of_tape ht]

theorem State.rInc_rInc_r (s : State) (m n : Nat) : ((s.rInc m).rInc n).r = (s.rInc (m + n)).r := by
  have hr := s.r.isLt
  simp only [rInc_r, BitVec.toNat_ofNat]
  congr 1
  omega

/-! ## The way through the loop (R453) -/

/-- The state at offset `k` of the iteration begun in `s`, after `n` M1 fetches and `t` T-states: with the registers and MEMPTR
given, and with any Tracer's side and run status. -/
def State.along (s : State) (k n t : Nat) (regs : Regs) (memptr : Word) (trace : Trace) (runStatus : RunStatus) : State :=
  { s with
    regs := regs, pc := s.pc + BitVec.ofNat 16 k, r := (s.rInc n).r, t := s.t + t, memptr := memptr
    intBlocked := .none, trace := trace, runStatus := runStatus }

theorem State.afterFetch_along (s : State) (k n t : Nat) (regs : Regs) (memptr : Word) (trace : Trace)
    (runStatus : RunStatus) {i : Instr} (hm : i.m1 = 1) :
    (s.along k n t regs memptr trace runStatus).afterFetch i =
      s.along (k + i.length) (n + 1) t regs memptr trace runStatus := by
  have hpc : s.pc + BitVec.ofNat 16 k + BitVec.ofNat 16 i.length = s.pc + BitVec.ofNat 16 (k + i.length) := by
    rw [BitVec.add_assoc, BitVec.ofNat_add]
  have hr := s.rInc_rInc_r n 1
  simp only [afterFetch, along, hm, hpc]
  rw [← hr]
  rfl

theorem offset_sub (l : Word) {k : Nat} (hk : k < 65536) : (l + BitVec.ofNat 16 k - l).toNat = k := by
  rw [BitVec.add_comm, BitVec.add_sub_cancel, BitVec.toNat_ofNat]
  exact Nat.mod_eq_of_lt hk

theorem matchesAt_read {s : State} {bytes : List Byte} {l : Word} (h : matchesAt s (bytes.map .literal) l = true) {k : Nat}
    (hk : k < bytes.length) : s.read (l + BitVec.ofNat 16 k) = bytes[k] := by
  induction bytes generalizing l k with
  | nil => cases hk
  | cons b bytes ih =>
    simp only [List.map_cons, matchesAt, itemMatches, Bool.and_eq_true, beq_iff_eq] at h
    obtain ⟨hb, hrest⟩ := h
    cases k with
    | zero => exact (congrArg s.read (BitVec.add_zero l)).trans hb.symm
    | succ k =>
      have hnext : l + BitVec.ofNat 16 (k + 1) = l + 1 + BitVec.ofNat 16 k := by
        rw [Nat.add_comm, BitVec.ofNat_add, BitVec.add_assoc]
        rfl
      rw [hnext]
      exact ih hrest (Nat.lt_of_succ_lt_succ hk)

/-- At every offset of the loop two of its bytes decide the instruction. -/
theorem fetched_of_rom {s x : State} (hm : matchesAt s romEntry.signature s.pc = true) {k : Nat} {i : Instr}
    (hmem : x.read = s.read) (hpc : x.pc = s.pc + BitVec.ofNat 16 k) (hk : k + 1 < romSignature.length)
    (hi : ∀ b2 b3, decode4 romSignature[k] romSignature[k + 1] b2 b3 = i) : x.fetched = i := by
  have hfirst : s.read (s.pc + BitVec.ofNat 16 k) = romSignature[k] := matchesAt_read hm (by omega)
  have hsecond : s.read (s.pc + BitVec.ofNat 16 k + 1) = romSignature[k + 1] := by
    rw [BitVec.add_assoc]
    exact (congrArg (fun o => s.read (s.pc + o)) (BitVec.ofNat_add k 1).symm).trans (matchesAt_read hm hk)
  rw [State.fetched, hmem, hpc, hfirst, hsecond]
  exact hi ..

/-- The iteration begun in `s` comes to offset `k`, after `n` instruction steps and M1 fetches and `t` T-states. -/
def AtOffset (s : State) (k n t : Nat) (regs : Regs) (memptr : Word) (reads : List Nat) : Prop :=
  ∃ trace runStatus,
    LeadsInside romEntry.signature.length s.pc s n reads (s.along k n t regs memptr trace runStatus) ∧
    (s.trace.stopPending = false → trace.stopPending = false ∧ runStatus = s.runStatus)

/-- The port's answer, by the EAR level. -/
def romByte (ear : Bool) : Byte := if ear then 0xFF else 0xBF

/-- The port's answer in the tape-loading environment with `PORT_READ` rule R425, at an even port (R425). -/
theorem State.portByte_even_of_ula {s : State} {tape : Tape} (ht : s.tape = some tape) (hp : s.params.portRead = .ula)
    {port : Word} (heven : port.getLsbD 0 = false) :
    s.portByte port = romByte (tape.ear s.params.tstatesPerMs s.t) := by
  simp only [portByte, ht, tapePortByte, hp, Tape.portAnswer, heven, Bool.false_eq_true, if_false]
  rfl

theorem exec_inAN_of_ula {s : State} {tape : Tape} (ht : s.tape = some tape) (hp : s.params.portRead = .ula) (n : Byte)
    (heven : n.getLsbD 0 = false) :
    exec (.inAN n) s = .next { s with
      regs := { s.regs with a := romByte (tape.ear s.params.tstatesPerMs s.t) }
      memptr := wordOf s.regs.a n + 1, t := s.t + 11 } := by
  have heven' : (wordOf s.regs.a n).getLsbD 0 = false := by
    rw [wordOf, BitVec.getLsbD_append]
    exact heven
  change execInAN n s = _
  simp only [execInAN, State.afterPortRead_of_ula ht hp, State.portByte_even_of_ula ht hp heven']
  rfl

/-- The registers of the iteration begun in `s` after its INC B, with A and F given. -/
def romRegs (s : State) (a f : Byte) : Regs := { s.regs with b := s.regs.b + 1, a := a, f := f }

/-- A after AND 0x20: bit 5 of the answer turned right, against C. -/
def romTest (ear : Bool) (c f : Byte) : Byte := ((rotA .rr (romByte ear) f).1 ^^^ c) &&& 0x20

section
variable {s : State} {tape : Tape} (ht : s.tape = some tape) (hh : s.halted = false)
  (hm : matchesAt s romEntry.signature s.pc = true)
include ht hm

/-- An instruction step from offset `k`, by the instruction found there and what it does. -/
theorem instructionStep_along {k n t k' t' : Nat} {regs regs' : Regs} {memptr memptr' : Word} {trace : Trace}
    {runStatus : RunStatus} {i : Instr} (hk : k + 1 < romSignature.length)
    (hi : ∀ b2 b3, decode4 romSignature[k] romSignature[k + 1] b2 b3 = i) (hm1 : i.m1 = 1)
    (he : exec i (s.along (k + i.length) (n + 1) t regs memptr trace runStatus) =
      .next (s.along k' (n + 1) t' regs' memptr' trace runStatus)) :
    (s.along k n t regs memptr trace runStatus).fetched = i ∧
    ∃ trace' runStatus', instructionStep (s.along k n t regs memptr trace runStatus) =
        .next (s.along k' (n + 1) t' regs' memptr' trace' runStatus') ∧
      (trace.stopPending = false → trace'.stopPending = false ∧ runStatus' = runStatus) := by
  have hf : (s.along k n t regs memptr trace runStatus).fetched = i := fetched_of_rom hm rfl rfl hk hi
  exact ⟨hf, instructionStep_of_tape hf (u := s.along k' (n + 1) t' regs' memptr' trace runStatus)
    (by rw [State.afterFetch_along _ _ _ _ _ _ _ _ hm1]; exact he) ht⟩

include hh

theorem AtOffset.next {k n t k' t' : Nat} {regs regs' : Regs} {memptr memptr' : Word} {reads : List Nat} {i : Instr}
    (h : AtOffset s k n t regs memptr reads) (hk : k + 1 < romSignature.length)
    (hi : ∀ b2 b3, decode4 romSignature[k] romSignature[k + 1] b2 b3 = i) (hm1 : i.m1 = 1)
    (he : ∀ trace runStatus, exec i (s.along (k + i.length) (n + 1) t regs memptr trace runStatus) =
      .next (s.along k' (n + 1) t' regs' memptr' trace runStatus))
    (hk' : 0 < k' ∧ k' < romEntry.signature.length) :
    AtOffset s k' (n + 1) t' regs' memptr' (reads ++ if readsPort i then [s.t + t] else []) := by
  obtain ⟨trace, runStatus, hleads, hstop⟩ := h
  obtain ⟨hf, trace', runStatus', hstep, hstop'⟩ := instructionStep_along ht hm hk hi hm1 (he trace runStatus)
  have hlen : romEntry.signature.length = 13 := rfl
  have hoff := offset_sub s.pc (k := k') (by omega)
  refine ⟨trace', runStatus', ?_, fun h0 => ?_⟩
  · rw [← hf]
    exact hleads.step (by rw [hf, hm1]) hstep (by rw [State.along, hoff]; exact hk'.1)
      (by rw [State.along, hoff]; exact hk'.2) hh
  · obtain ⟨htrace, rfl⟩ := hstop h0
    exact hstop' htrace

/-- INC B, the first instruction. -/
theorem atOffset_one : AtOffset s 1 1 4 (romRegs s s.regs.a (inc8 s.regs.b s.regs.f).2) s.memptr [] := by
  have hf : s.fetched = .incR .b := fetched_of_rom (k := 0) hm rfl (BitVec.add_zero _).symm (by decide) fun _ _ => rfl
  obtain ⟨trace, runStatus, hstep, hstop⟩ := instructionStep_of_tape hf
    (u := s.along 1 1 4 (romRegs s s.regs.a (inc8 s.regs.b s.regs.f).2) s.memptr s.trace s.runStatus) rfl ht
  refine ⟨trace, runStatus, ?_, hstop⟩
  have hoff : (s.pc + 1 - s.pc).toNat = 1 := offset_sub s.pc (by decide)
  have hleads := (LeadsInside.refl romEntry.signature.length s.pc s).step (by rw [hf]; rfl) hstep
    (hoff.symm ▸ Nat.one_pos) (hoff.symm ▸ by decide) hh
  rwa [hf] at hleads

/-! ## From INC B to JR Z -/

/-- With B + 1 = 0, RET Z leaves the loop for the address on the stack. -/
theorem iterateFrom_of_b_zero (hb : s.regs.b + 1 = 0) (hout : romEntry.signature.length ≤ (s.popped - s.pc).toNat)
    (fuel : Nat) : iterateFrom romEntry.signature.length s.pc (1 + (fuel + 1)) s = none := by
  obtain ⟨trace, runStatus, hleads, -⟩ := atOffset_one ht hh hm
  have hz : condHolds .z (inc8 s.regs.b s.regs.f).2 = true := by
    rw [condHolds, (inc8_flagsAre _ _).zero, hb]
    rfl
  have hf := fetched_of_rom (x := s.along 1 1 4 (romRegs s s.regs.a (inc8 s.regs.b s.regs.f).2)
    s.memptr trace runStatus) (k := 1) hm rfl rfl (by decide) fun _ _ => rfl
  obtain ⟨_, _, hstep, -⟩ := instructionStep_of_tape (i := .retCc .z) hf (if_pos hz) ht
  rw [hleads.iterate, iterateFrom_outside hstep hout (by decide)]

/-- The loop goes on to JR Z exactly where RET Z and RET NC do not leave it: B + 1 is not 0, and bit 0 of the answer is 1. -/
theorem atOffset_jr (hp : s.params.portRead = .ula) (hb : s.regs.b + 1 ≠ 0) :
    let test := romTest (tape.ear s.params.tstatesPerMs (s.t + 16)) s.regs.c (inc8 s.regs.b s.regs.f).2
    AtOffset s 11 8 47 (romRegs s test (szpF test true false false)) (wordOf 0x7F 0xFE + 1) [s.t + 16] := by
  intro test
  let ear := tape.ear s.params.tstatesPerMs (s.t + 16)
  have hz : ¬ condHolds .z (inc8 s.regs.b s.regs.f).2 = true := by
    rw [condHolds, (inc8_flagsAre _ _).zero]
    simpa using hb
  have hc : ¬ condHolds .nc (rotA .rr (romByte ear) (inc8 s.regs.b s.regs.f).2).2 = true := by
    cases ear <;> simp [condHolds, rotA, rotRes, romByte]
  let f := (inc8 s.regs.b s.regs.f).2
  let rra := rotA .rr (romByte ear) f
  have hRetZ : AtOffset s 2 2 9 (romRegs s s.regs.a f) s.memptr [] :=
    (atOffset_one ht hh hm).next ht hh hm (by decide) (i := .retCc .z) (fun _ _ => rfl) rfl (fun _ _ => if_neg hz)
      (by decide)
  have hLd : AtOffset s 4 3 16 (romRegs s 0x7F f) s.memptr [] :=
    hRetZ.next ht hh hm (by decide) (i := .ldRN .a 0x7F) (fun _ _ => rfl) rfl (fun _ _ => rfl) (by decide)
  have hIn : AtOffset s 6 4 27 (romRegs s (romByte ear) f) (wordOf 0x7F 0xFE + 1) [s.t + 16] :=
    hLd.next ht hh hm (by decide) (i := .inAN 0xFE) (fun _ _ => rfl) rfl
      (fun trace runStatus =>
        exec_inAN_of_ula (s := s.along 6 4 16 (romRegs s 0x7F f) s.memptr trace runStatus) ht hp 0xFE rfl) (by decide)
  have hRra : AtOffset s 7 5 31 (romRegs s rra.1 rra.2) (wordOf 0x7F 0xFE + 1) [s.t + 16] :=
    hIn.next ht hh hm (by decide) (i := .rra) (fun _ _ => rfl) rfl (fun _ _ => rfl) (by decide)
  have hRetNc : AtOffset s 8 6 36 (romRegs s rra.1 rra.2) (wordOf 0x7F 0xFE + 1) [s.t + 16] :=
    hRra.next ht hh hm (by decide) (i := .retCc .nc) (fun _ _ => rfl) rfl (fun _ _ => if_neg hc) (by decide)
  have hXor : AtOffset s 9 7 40 (romRegs s (rra.1 ^^^ s.regs.c) (szpF (rra.1 ^^^ s.regs.c) false false false))
      (wordOf 0x7F 0xFE + 1) [s.t + 16] :=
    hRetNc.next ht hh hm (by decide) (i := .xorR .c) (fun _ _ => rfl) rfl (fun _ _ => rfl) (by decide)
  exact hXor.next ht hh hm (by decide) (i := .andN 0x20) (fun _ _ => rfl) rfl (fun _ _ => rfl) (by decide)

/-! ## JR Z, and the iteration (R453, R464) -/

omit ht hh hm in
/-- A after AND 0x20 is 0 where the EAR level is C[5]: a pulse without an edge in it. -/
theorem romTest_eq (ear : Bool) (c f : Byte) : romTest ear c f = if ear = c.getLsbD 5 then 0 else 0x20 := by
  have hcases : ∀ (ear carry : Bool) (c : Byte),
      ((rotRes .rr (romByte ear) carry).1 ^^^ c) &&& 0x20 = if ear = c.getLsbD 5 then 0 else 0x20 := by decide
  exact hcases ear (flagC f) c

omit ht hh hm in
theorem iterationFuel_eq : ∃ fuel, iterationFuel = 8 + (fuel + 1) ∧ iterationFuel = 1 + (fuel + 7 + 1) :=
  ⟨18446744073709551607, rfl, rfl⟩

omit ht hm in
theorem iteration_eq (a : Accelerator) : iteration a s = iterateFrom a.signature.length s.pc iterationFuel s :=
  if_neg (by simp [hh])

theorem iteration_rom_of_level (hp : s.params.portRead = .ula) (hb : s.regs.b + 1 ≠ 0)
    (hear : tape.ear s.params.tstatesPerMs (s.t + 16) = s.regs.c.getLsbD 5) :
    ∃ trace runStatus, iteration romEntry s = some (s.along 0 9 59 (romRegs s 0 0x54) s.pc trace runStatus) ∧
      iterationM1 romEntry s = 9 ∧ iterationReads romEntry s = [s.t + 16] ∧
      (s.trace.stopPending = false → runStatus = s.runStatus) := by
  obtain ⟨trace, runStatus, hleads, hstop⟩ := atOffset_jr ht hh hm hp hb
  rw [romTest_eq, if_pos hear, (by decide : szpF 0 true false false = 0x54)] at hleads
  have hzero : s.pc + BitVec.ofNat 16 0 = s.pc := BitVec.add_zero _
  have hback : exec (.jrCc .z 0xF3) (s.along 13 9 47 (romRegs s 0 0x54) (wordOf 0x7F 0xFE + 1) trace runStatus) =
      .next (s.along 0 9 59 (romRegs s 0 0x54) s.pc trace runStatus) := by
    have htarget : s.pc + BitVec.ofNat 16 13 + (0xF3 : Byte).signExtend 16 = s.pc := by
      rw [BitVec.add_assoc]
      exact hzero
    refine (if_pos (rfl : condHolds .z 0x54 = true)).trans ?_
    simp only [State.relTarget, State.along, htarget, hzero]
    rfl
  obtain ⟨hf, trace', runStatus', hstep, hstop'⟩ :=
    instructionStep_along ht hm (k := 11) (by decide) (i := .jrCc .z 0xF3) (fun _ _ => rfl) rfl hback
  obtain ⟨fuel, hfuel, -⟩ := iterationFuel_eq
  refine ⟨trace', runStatus', ?_, ?_, ?_, fun h0 => ?_⟩
  · rw [iteration_eq hh, hfuel, hleads.iterate]
    exact iterateFrom_back hstep hzero
  · change pathM1 (pathFrom _ _ iterationFuel _) = _
    rw [hfuel, hleads.m1, pathFrom_back hstep hzero, pathM1_cons, hf]
    rfl
  · change pathReads (pathFrom _ _ iterationFuel _) = _
    rw [hfuel, hleads.portReads, pathFrom_back hstep hzero, pathReads_cons, hf]
    rfl
  · obtain ⟨htrace, rfl⟩ := hstop h0
    exact (hstop' htrace).2

theorem iteration_rom_of_edge (hp : s.params.portRead = .ula) (hb : s.regs.b + 1 ≠ 0)
    (hear : tape.ear s.params.tstatesPerMs (s.t + 16) ≠ s.regs.c.getLsbD 5) : iteration romEntry s = none := by
  obtain ⟨trace, runStatus, hleads, -⟩ := atOffset_jr ht hh hm hp hb
  rw [romTest_eq, if_neg hear, (by decide : szpF 0x20 true false false = 0x30)] at hleads
  have hon : exec (.jrCc .z 0xF3) (s.along 13 9 47 (romRegs s 0x20 0x30) (wordOf 0x7F 0xFE + 1) trace runStatus) =
      .next (s.along 13 9 54 (romRegs s 0x20 0x30) (wordOf 0x7F 0xFE + 1) trace runStatus) :=
    (if_neg (by decide : ¬ condHolds .z 0x30 = true)).trans rfl
  obtain ⟨-, trace', runStatus', hstep, -⟩ :=
    instructionStep_along ht hm (k := 11) (by decide) (i := .jrCc .z 0xF3) (fun _ _ => rfl) rfl hon
  obtain ⟨fuel, hfuel, -⟩ := iterationFuel_eq
  rw [iteration_eq hh, hfuel, hleads.iterate]
  exact iterateFrom_outside hstep (offset_sub s.pc (k := 13) (by decide)).ge (by decide)

theorem iteration_rom_of_b_zero (hb : s.regs.b + 1 = 0) (hout : romEntry.signature.length ≤ (s.popped - s.pc).toNat) :
    iteration romEntry s = none := by
  obtain ⟨fuel, -, hfuel⟩ := iterationFuel_eq
  rw [iteration_eq hh, hfuel]
  exact iterateFrom_of_b_zero ht hh hm hb hout _

/-! ## Validity of the entry (R455, log 31) -/

omit ht hh hm in
/-- With `PORT_READ` rule R425 an answer has bit 6 free and every other bit 1. -/
theorem canAnswer_ula {p : Params} {v : Byte} (hp : p.portRead = .ula) (h : canAnswer p v) : v = 0xFF ∨ v = 0xBF := by
  obtain ⟨x, tape, port, rfl, rfl⟩ := h
  simp only [State.tapePortByte, hp, Tape.portAnswer]
  split
  · exact .inl rfl
  · split
    · exact .inl rfl
    · exact .inr rfl

omit ht hh hm in
theorem answer_of_earMask {v w : Byte} (hv : v = 0xFF ∨ v = 0xBF) (hw : w = 0xFF ∨ w = 0xBF)
    (h : v &&& romEntry.earMask = w &&& romEntry.earMask) : v = w := by
  obtain rfl | rfl := hv <;> obtain rfl | rfl := hw
  · rfl
  · exact absurd h (by decide)
  · exact absurd h (by decide)
  · rfl

theorem entryValidAt_rom (hp : s.params.portRead = .ula)
    (hret : s.regs.b + 1 ≠ 0 ∨ romEntry.signature.length ≤ (s.popped - s.pc).toNat) : entryValidAt romEntry s := by
  refine ⟨fun u hu => ?loops, fun v w hv hw hmask => ?mask⟩
  case mask => rw [answer_of_earMask (canAnswer_ula hp hv) (canAnswer_ula hp hw) hmask]
  case loops =>
    have hb : s.regs.b + 1 ≠ 0 := by
      intro hb
      rw [iteration_rom_of_b_zero ht hh hm hb (hret.resolve_left (not_not.mpr hb))] at hu
      cases hu
    have hear : tape.ear s.params.tstatesPerMs (s.t + 16) = s.regs.c.getLsbD 5 := by
      by_contra hear
      rw [iteration_rom_of_edge ht hh hm hp hb hear] at hu
      cases hu
    obtain ⟨trace, runStatus, hit, hm1, hreads, -⟩ := iteration_rom_of_level ht hh hm hp hb hear
    rw [hit] at hu
    cases hu
    exact ⟨rfl, hm1, hreads⟩
end

theorem entryValid_rom {p : Params} (hp : p.portRead = .ula) : entryValid p romEntry := by
  rintro s ⟨rfl, htape, hh, hm, hout⟩
  obtain ⟨tape, ht⟩ := Option.isSome_iff_exists.mp htape
  exact entryValidAt_rom ht hh hm hp (.inr (Nat.not_lt.mp (of_decide_eq_false hout)))

/-- Settles O57, by the way of the iteration through the loop's nine instructions. -/
theorem romLoopIterationInClosedForm : Obligations.RomLoopIterationInClosedForm := by
  unfold Obligations.RomLoopIterationInClosedForm
  refine ⟨fun s tape ht hp _ hh hstop hm => ⟨fun hb hear => ?_, fun hb hear => iteration_rom_of_edge ht hh hm hp hb hear,
    fun hb hout => iteration_rom_of_b_zero ht hh hm hb hout, fun hret => entryValidAt_rom ht hh hm hp hret⟩,
    fun p hp => entryValid_rom hp⟩
  obtain ⟨trace, runStatus, hit, -, -, hrun⟩ := iteration_rom_of_level ht hh hm hp hb hear
  refine ⟨_, hit, ?_⟩
  have hzero : s.pc + BitVec.ofNat 16 0 = s.pc := BitVec.add_zero _
  simp only [State.along, hzero, hrun hstop]
  rfl

end Sys2Proof.Machine
